-- ==== Sys2Proof/Word.lean ====
section
/-! DEFINITION. The word types of the block: bytes, 16-bit and 32-bit values, byte strings
(spec/00_scope.md R10). -/

namespace Sys2Proof

/-- A byte (R10). -/
abbrev Byte := BitVec 8

/-- A 16-bit field of the SETUP packet (R110). -/
abbrev Half := BitVec 16

/-- A 32-bit value: the CRC accumulator (R21) or a 32-bit frame field (R121). -/
abbrev Word := BitVec 32

/-- A byte string, first byte first (R10). -/
abbrev Bytes := List Byte

end Sys2Proof
end

