-- ==== Sys2Proof/Config.lean ====
section
/-! DEFINITION. What an implementation fixes: the parameters of spec/00_scope.md R8 (constants) and
R9 (a record, held in the state and changed by no step), the well-formedness the spec asks of them,
the default values, and the one source of free values. -/

namespace Sys2Proof

/-! ## R8: parameters the document fixes, one constant per row of its table

`crcWidth`, `nEp` and `nRxBanks` are also the shape of the types: `Word`, the endpoint fields of the
state, the banks. The constants from `epOutAddr` on are stated by the descriptors only, and the block
parses no descriptor (30_encoding.md R133); `Config.fixtureRom` is written with them. -/

/-- `CRC_POLY`: the reflected CRC-32 polynomial. -/
def crcPoly : Word := 0xEDB88320#32

/-- `CRC_SEED_VALUE`: the complement-of-zero seed. -/
def crcSeedValue : Word := 0xFFFFFFFF#32

/-- `CRC_WIDTH`: bits of the accumulator. -/
abbrev crcWidth : Nat := 32

/-- `N_EP`: EP0 control, EP1 interrupt-OUT, EP2 interrupt-IN. -/
abbrev nEp : Nat := 3

/-- `FIFO_DEPTH`: bytes of every endpoint FIFO, the chunk size, the interrupt max packet. -/
def fifoDepth : Nat := 8

/-- `N_RX_BANKS`: EP1's receive banks. -/
abbrev nRxBanks : Nat := 2

/-- `FRAME_LEN`: bytes of a command or reply frame. -/
def frameLen : Nat := 64

/-- `SETUP_LEN`: bytes of a SETUP packet. -/
abbrev setupLen : Nat := 8

/-- `EP_OUT_ADDR`: the address of the interrupt-OUT endpoint. -/
abbrev epOutAddr : Nat := 1

/-- `EP_IN_ADDR`: the address of the interrupt-IN endpoint. -/
abbrev epInAddr : Nat := 2

/-- `POLL_INTERVAL` in milliseconds: a descriptor value only, no rule depends on it. -/
abbrev pollInterval : Nat := 1

/-- `N_CONFIGURATIONS`. -/
abbrev nConfigurations : Nat := 1

/-- `N_INTERFACES`: one HID interface, no alternates. -/
abbrev nInterfaces : Nat := 1

/-- `REPORT_IN_LEN`: bytes of the input report. -/
abbrev reportInLen : Nat := 64

/-- `REPORT_OUT_LEN`: bytes of the output report. -/
abbrev reportOutLen : Nat := 64

/-- Bytes of a flash page, which is also the size of CONSUMER's staging area (44_environment.md
R283, 20_memory.md R77). -/
def pageLen : Nat := 256

/-! ## R9: parameters the document leaves open -/

/-- The descriptor ROM, "fixed at build time" (20_memory.md R72). -/
structure Rom where
  device    : Bytes
  config    : Bytes
  hidReport : Bytes
  strings   : List Bytes
deriving DecidableEq, Repr

/-- The eleven `REQ_*` codes (30_encoding.md R114). -/
structure RequestCodes where
  getStatus        : Byte
  clearFeature     : Byte
  setFeature       : Byte
  setAddress       : Byte
  getDescriptor    : Byte
  setDescriptor    : Byte
  getConfiguration : Byte
  setConfiguration : Byte
  getInterface     : Byte
  setInterface     : Byte
  syncFrame        : Byte
deriving DecidableEq, Repr

/-- The four `DT_*` codes (30_encoding.md R116). -/
structure DescriptorTypes where
  device        : Byte
  configuration : Byte
  string        : Byte
  hidReport     : Byte
deriving DecidableEq, Repr

/-- The frame opcode values (30_encoding.md R122). -/
structure FrameOpcodes where
  deviceInfo    : Word
  setupWrite    : Word
  finishWrite   : Word
  hardwareReset : Word
  ack           : Word
deriving DecidableEq, Repr

/-- `RX_BANK_ORDER`: which pending EP1 bank the receive handler drains first (R9, D32). -/
inductive RxBankOrder where
  | bank0First
  | bank1First
deriving DecidableEq, Repr

/-- `BANK_FILL_POLICY`: which free EP1 bank BUS may fill (R9, D32). -/
inductive BankFillPolicy where
  | any
  | alternate
deriving DecidableEq, Repr

/-- `EP0_OUT_FLAGGING`: whether BUS flags non-SETUP OUT packets on EP0 (R9, D9). -/
inductive Ep0OutFlagging where
  | none
  | bank0
deriving DecidableEq, Repr

/-- The fields of a control/status register that a packing would place in a word (10_state.md R32);
the FIFOs are accessed a byte at a time and the delayed writes are hidden state. -/
inductive CsrField where
  | enabled
  | eptype
  | rxSetup
  | rxBank0
  | rxBank1
  | rxCount0
  | rxCount1
  | txTrigger
  | txAcked
  | dir
deriving DecidableEq, Repr

/-- Where a packing puts a field: its lowest bit and its width. -/
structure CsrPlace where
  field : CsrField
  low   : Nat
  width : Nat
deriving DecidableEq, Repr

/-- The parameters of R9. `VID` and `PID` are bytes of `rom.device`. No rule depends on `csrLayout`
(10_state.md R45), so nothing reads it. -/
structure Config where
  rom            : Rom
  req            : RequestCodes
  dt             : DescriptorTypes
  op             : FrameOpcodes
  rxBankOrder    : RxBankOrder
  bankFillPolicy : BankFillPolicy
  ep0OutFlagging : Ep0OutFlagging
  spinCap        : Option Nat
  csrLayout      : Option (List CsrPlace)
deriving DecidableEq, Repr

/-- The request codes in the order of R114's table. -/
def RequestCodes.toList (r : RequestCodes) : Bytes :=
  [r.getStatus, r.clearFeature, r.setFeature, r.setAddress, r.getDescriptor, r.setDescriptor,
    r.getConfiguration, r.setConfiguration, r.getInterface, r.setInterface, r.syncFrame]

/-- The descriptor types in the order of R116. -/
def DescriptorTypes.toList (d : DescriptorTypes) : Bytes :=
  [d.device, d.configuration, d.string, d.hidReport]

/-- The frame opcodes in the order of R122. -/
def FrameOpcodes.toList (o : FrameOpcodes) : List Word :=
  [o.deviceInfo, o.setupWrite, o.finishWrite, o.hardwareReset, o.ack]

namespace Config

/-- A string descriptor's first byte is its own length (20_memory.md R72); an empty string has no
first byte and fails (93_implementation_defined.md U12). -/
def stringOk (t : Bytes) : Bool :=
  match t with
  | [] => false
  | b :: _ => b.toNat == t.length

/-- The configurations the spec does not refuse: every string well-formed (20_memory.md R72) and
`EP0_OUT_FLAGGING = none` (44_environment.md R276). -/
def wf (c : Config) : Bool := c.rom.strings.all stringOk && c.ep0OutFlagging == .none

/-- Codes of one kind are pairwise different, so that no word has two meanings. A configuration with
equal codes runs too (assumption log 4); statements about what a code selects take this as a
premise. -/
def codesDistinct (c : Config) : Bool :=
  decide c.req.toList.Nodup && decide c.dt.toList.Nodup && decide c.op.toList.Nodup

/-- The default request codes (30_encoding.md R114). -/
def defaultReq : RequestCodes where
  getStatus := 0x00
  clearFeature := 0x01
  setFeature := 0x03
  setAddress := 0x05
  getDescriptor := 0x06
  setDescriptor := 0x07
  getConfiguration := 0x08
  setConfiguration := 0x09
  getInterface := 0x0A
  setInterface := 0x0B
  syncFrame := 0x0C

/-- The default descriptor types (30_encoding.md R116). -/
def defaultDt : DescriptorTypes where
  device := 0x01
  configuration := 0x02
  string := 0x03
  hidReport := 0x22

/-- The frame opcodes as the document gives them (30_encoding.md R122). -/
def defaultOp : FrameOpcodes where
  deviceInfo := 0x0000
  setupWrite := 0x0001
  finishWrite := 0x0003
  hardwareReset := 0x0004
  ack := 0x00FF

/-- A descriptor byte that states one of R8's constants. -/
def romByte (n : Nat) : Byte := BitVec.ofNat 8 n

/-- DESIGN CHOICE (assumption log 4): the descriptor fixture of 95_test_vectors.md section 4 stands
in for the ROM bytes the spec leaves open. Where a byte states a constant of R8 it is written as that
constant (20_memory.md R73). -/
def fixtureRom : Rom where
  device := [0x12, 0x01, 0x10, 0x01, 0x00, 0x00, 0x00, romByte fifoDepth, 0x66, 0x66, 0x01, 0x00,
    0x00, 0x01, 0x00, 0x01, 0x00, romByte nConfigurations]
  config := [0x09, 0x02, 0x29, 0x00, romByte nInterfaces, 0x01, 0x00, 0x80, 0x32]
    ++ [0x09, 0x04, 0x00, 0x00, romByte (nEp - 1), 0x03, 0x00, 0x00, 0x00]
    ++ [0x09, 0x21, 0x00, 0x01, 0x00, 0x01, 0x22, 0x1D, 0x00]
    ++ [0x07, 0x05, romByte epOutAddr, 0x03, romByte fifoDepth, 0x00, romByte pollInterval]
    ++ [0x07, 0x05, romByte (0x80 + epInAddr), 0x03, romByte fifoDepth, 0x00, romByte pollInterval]
  hidReport := [0x06, 0x00, 0xFF, 0x09, 0x01, 0xA1, 0x01, 0x19, 0x01, 0x29, romByte reportInLen,
    0x15, 0x00, 0x26, 0xFF, 0x00, 0x75, 0x08, 0x95, romByte reportInLen, 0x81, 0x02, 0x19, 0x01,
    0x29, romByte reportOutLen, 0x91, 0x02, 0xC0]
  strings := [[0x04, 0x03, 0x09, 0x04],
    [0x0A, 0x03, 0x46, 0x00, 0x50, 0x00, 0x47, 0x00, 0x41, 0x00]]

/-- The parameters at their defaults (R9). -/
def default : Config where
  rom := fixtureRom
  req := defaultReq
  dt := defaultDt
  op := defaultOp
  rxBankOrder := .bank0First
  bankFillPolicy := .any
  ep0OutFlagging := .none
  spinCap := Option.none
  csrLayout := Option.none

/-- The n-th free byte: a value the spec leaves open, about which nothing can be proved (assumption
log 7; 93_implementation_defined.md U1, U9). -/
opaque freeByte : Nat → Byte

end Config

end Sys2Proof
end

