-- ==== Sys2Proof/Syntax.lean ====
section
/-! DEFINITION. The syntax: one constructor per row of spec/opcode_table.json, and the SETUP packet as
a record (spec/30_encoding.md). -/

namespace Sys2Proof

/-- The three formats of the opcode table: an operation invoked by name (30_encoding.md R127), a SETUP
packet (R110), a command frame (R121). -/
inductive Format where
  | opsel
  | setup
  | frame
deriving DecidableEq, Repr

/-- The fields of a SETUP packet (30_encoding.md R110), which are also the fields of the SETUP latch
(10_state.md R22). -/
structure Setup where
  bmRequestType : Byte
  bRequest      : Byte
  wValue        : Half
  wIndex        : Half
  wLength       : Half
deriving DecidableEq, Repr

/-- The instructions. Fields of a SETUP row are all the bits of the packet that the row does not fix,
so that no bit of an encoding is dropped; `rt` is `bmRequestType`. -/
inductive Instr where
  /-- CRC_SEED (40_crc32.md R153). -/
  | crcSeed
  /-- CRC_LOAD v (R154). -/
  | crcLoad (v : Word)
  /-- CRC_FEED s (R155). -/
  | crcFeed (bytes : Bytes)
  /-- CRC_RAW (R156). -/
  | crcRaw
  /-- CRC_FINAL (R157). -/
  | crcFinal
  /-- POLL (41_usb_poll_control.md R180). -/
  | poll
  /-- SEND_FRAME s (43_hid_framer.md R250). -/
  | sendFrame (bytes : Bytes)
  /-- GET_DESCRIPTOR Device (42_usb_requests.md R211). -/
  | getDescriptorDevice (rt : Byte) (index : Byte) (wIndex wLength : Half)
  /-- GET_DESCRIPTOR Configuration (R212). -/
  | getDescriptorConfiguration (rt : Byte) (index : Byte) (wIndex wLength : Half)
  /-- GET_DESCRIPTOR String (R213). -/
  | getDescriptorString (rt : Byte) (index : Byte) (wIndex wLength : Half)
  /-- GET_DESCRIPTOR HID-Report (R215). -/
  | getDescriptorHidReport (rt : Byte) (index : Byte) (wIndex wLength : Half)
  /-- GET_DESCRIPTOR with a type that is none of the four (R214). -/
  | getDescriptorUnknownType (rt : Byte) (type index : Byte) (wIndex wLength : Half)
  /-- GET_STATUS, IN, recipient device; `kind` is `bmRequestType[6:5]` (R219, 30_encoding.md R119). -/
  | getStatusDevice (kind : BitVec 2) (wValue wIndex wLength : Half)
  /-- GET_STATUS, IN, recipient interface (R219). -/
  | getStatusInterface (kind : BitVec 2) (wValue wIndex wLength : Half)
  /-- GET_STATUS, IN, recipient endpoint (R219). -/
  | getStatusEndpoint (kind : BitVec 2) (wValue wIndex wLength : Half)
  /-- GET_STATUS that does not qualify (R219). -/
  | getStatusOther (rt : Byte) (wValue wIndex wLength : Half)
  /-- CLEAR_FEATURE (R222). -/
  | clearFeature (rt : Byte) (wValue wIndex wLength : Half)
  /-- SET_FEATURE (R223). -/
  | setFeature (rt : Byte) (wValue wIndex wLength : Half)
  /-- SET_ADDRESS; `addr` is `wValue[6:0]`, `high` the reserved `wValue[15:7]` (R216). -/
  | setAddress (rt : Byte) (addr : BitVec 7) (high : BitVec 9) (wIndex wLength : Half)
  /-- SET_DESCRIPTOR (R225). -/
  | setDescriptor (rt : Byte) (wValue wIndex wLength : Half)
  /-- GET_CONFIGURATION (R217). -/
  | getConfiguration (rt : Byte) (wValue wIndex wLength : Half)
  /-- SET_CONFIGURATION; `value` is `wValue[7:0]`, `high` the ignored `wValue[15:8]` (R218). -/
  | setConfiguration (rt : Byte) (value high : Byte) (wIndex wLength : Half)
  /-- GET_INTERFACE (R220). -/
  | getInterface (rt : Byte) (wValue wIndex wLength : Half)
  /-- SET_INTERFACE (R221). -/
  | setInterface (rt : Byte) (wValue wIndex wLength : Half)
  /-- SYNC_FRAME (R224). -/
  | syncFrame (rt : Byte) (wValue wIndex wLength : Half)
  /-- A `bRequest` that is none of the eleven codes (R226). -/
  | unknownRequest (rt bRequest : Byte) (wValue wIndex wLength : Half)
  /-- Frame DEVICE_INFO (30_encoding.md R122; 44_environment.md R283). -/
  | frameDeviceInfo (ext1 ext2 ext3 : Word) (payload : Bytes)
  /-- Frame SETUP_WRITE (R122; R283). -/
  | frameSetupWrite (ext1 ext2 ext3 : Word) (payload : Bytes)
  /-- Frame FINISH_WRITE (R122; R283). -/
  | frameFinishWrite (ext1 ext2 ext3 : Word) (payload : Bytes)
  /-- Frame HARDWARE_RESET (R122; R283). -/
  | frameHardwareReset (ext1 ext2 ext3 : Word) (payload : Bytes)
  /-- Frame ACK, which as a command frame is an unknown opcode (R122; R283). -/
  | frameAck (ext1 ext2 ext3 : Word) (payload : Bytes)
deriving DecidableEq, Repr

/-- The format of an instruction's row in spec/opcode_table.json. -/
def Instr.format : Instr → Format
  | .crcSeed => .opsel
  | .crcLoad _ => .opsel
  | .crcFeed _ => .opsel
  | .crcRaw => .opsel
  | .crcFinal => .opsel
  | .poll => .opsel
  | .sendFrame _ => .opsel
  | .getDescriptorDevice _ _ _ _ => .setup
  | .getDescriptorConfiguration _ _ _ _ => .setup
  | .getDescriptorString _ _ _ _ => .setup
  | .getDescriptorHidReport _ _ _ _ => .setup
  | .getDescriptorUnknownType _ _ _ _ _ => .setup
  | .getStatusDevice _ _ _ _ => .setup
  | .getStatusInterface _ _ _ _ => .setup
  | .getStatusEndpoint _ _ _ _ => .setup
  | .getStatusOther _ _ _ _ => .setup
  | .clearFeature _ _ _ _ => .setup
  | .setFeature _ _ _ _ => .setup
  | .setAddress _ _ _ _ _ => .setup
  | .setDescriptor _ _ _ _ => .setup
  | .getConfiguration _ _ _ _ => .setup
  | .setConfiguration _ _ _ _ _ => .setup
  | .getInterface _ _ _ _ => .setup
  | .setInterface _ _ _ _ => .setup
  | .syncFrame _ _ _ _ => .setup
  | .unknownRequest _ _ _ _ _ => .setup
  | .frameDeviceInfo _ _ _ _ => .frame
  | .frameSetupWrite _ _ _ _ => .frame
  | .frameFinishWrite _ _ _ _ => .frame
  | .frameHardwareReset _ _ _ _ => .frame
  | .frameAck _ _ _ _ => .frame

end Sys2Proof
end

