-- ==== Sys2Proof/WellFormed.lean ====
section
/-! DEFINITION. Which instruction terms stand for a word of the encoding: the fallback rows of
spec/30_encoding.md R112 hold only what no other row takes, and a frame's payload has 48 bytes
(R121). -/

namespace Sys2Proof

/-- GET_STATUS gets its reply: bit 7 set and recipient 0, 1 or 2 (30_encoding.md R119). -/
def getStatusQualifies (rt : Byte) : Bool :=
  rt.getLsbD 7 && (rt.extractLsb' 0 5 == 0#5 || rt.extractLsb' 0 5 == 1#5
    || rt.extractLsb' 0 5 == 2#5)

/-- The instruction is the meaning of some word of its format under the codes of `c`. -/
def wellFormed (c : Config) : Instr → Bool
  | .crcSeed => true
  | .crcLoad _ => true
  | .crcFeed _ => true
  | .crcRaw => true
  | .crcFinal => true
  | .poll => true
  | .sendFrame _ => true
  | .getDescriptorDevice _ _ _ _ => true
  | .getDescriptorConfiguration _ _ _ _ => true
  | .getDescriptorString _ _ _ _ => true
  | .getDescriptorHidReport _ _ _ _ => true
  | .getDescriptorUnknownType _ t _ _ _ => !c.dt.toList.contains t
  | .getStatusDevice _ _ _ _ => true
  | .getStatusInterface _ _ _ _ => true
  | .getStatusEndpoint _ _ _ _ => true
  | .getStatusOther rt _ _ _ => !getStatusQualifies rt
  | .clearFeature _ _ _ _ => true
  | .setFeature _ _ _ _ => true
  | .setAddress _ _ _ _ _ => true
  | .setDescriptor _ _ _ _ => true
  | .getConfiguration _ _ _ _ => true
  | .setConfiguration _ _ _ _ _ => true
  | .getInterface _ _ _ _ => true
  | .setInterface _ _ _ _ => true
  | .syncFrame _ _ _ _ => true
  | .unknownRequest _ b _ _ _ => !c.req.toList.contains b
  | .frameDeviceInfo _ _ _ p => p.length == 48
  | .frameSetupWrite _ _ _ p => p.length == 48
  | .frameFinishWrite _ _ _ p => p.length == 48
  | .frameHardwareReset _ _ _ p => p.length == 48
  | .frameAck _ _ _ p => p.length == 48

end Sys2Proof
end

