-- ==== Sys2Proof/Decode.lean ====
section
/-! DEFINITION. Decoding, total on any bytes and rejecting by name, the encoder, and the opcode table's
SETUP rows as data (spec/30_encoding.md R110 to R130, spec/20_memory.md R82, R85). -/

namespace Sys2Proof

/-- Why a byte string is no instruction of its format. None of these is an event of the hardware: the
block has no illegal-instruction exception (30_encoding.md R129). -/
inductive DecodeError where
  /-- An invocation with no `op_sel` byte. -/
  | emptyCall
  /-- An `op_sel` that is not in the table of R127: "a model refuses it". -/
  | unknownOpSel (op : Byte)
  /-- An operation given operand bytes of the wrong length (assumption log 8). -/
  | operandLength (op : Byte) (n : Nat)
  /-- A SETUP packet of another length than 8 (R130). -/
  | setupLength (n : Nat)
  /-- A frame of another length than 64: "a protocol violation" (R121). -/
  | frameLength (n : Nat)
  /-- A frame opcode CONSUMER does not know (R129). -/
  | unknownFrameOpcode (op : Word)
deriving DecidableEq, Repr

/-! ## Byte order -/

/-- `u16le(b0, b1) = b0 + 256 * b1` (20_memory.md R85). -/
def u16le (b0 b1 : Byte) : Half := b1 ++ b0

/-- The 32-bit little-endian value of four bytes (20_memory.md R82). -/
def u32le (b0 b1 b2 b3 : Byte) : Word := b3 ++ b2 ++ b1 ++ b0

/-- Byte `k` of a value, byte 0 the least significant. -/
def byteOf {n : Nat} (k : Nat) (v : BitVec n) : Byte := v.extractLsb' (8 * k) 8

/-- The bytes of a 16-bit value, least significant first (20_memory.md R85). -/
def bytes16 (v : Half) : Bytes := [byteOf 0 v, byteOf 1 v]

/-- The bytes of a 32-bit value, least significant first (20_memory.md R82). -/
def bytes32 (v : Word) : Bytes := [byteOf 0 v, byteOf 1 v, byteOf 2 v, byteOf 3 v]

/-! ## The SETUP packet -/

/-- The eight bytes of a SETUP packet, in the order of R110. -/
def Setup.toBytes (p : Setup) : Bytes :=
  [p.bmRequestType, p.bRequest] ++ bytes16 p.wValue ++ bytes16 p.wIndex ++ bytes16 p.wLength

/-- The latch that eight bytes give (41_usb_poll_control.md R184). -/
def setupOf (p0 p1 p2 p3 p4 p5 p6 p7 : Byte) : Setup where
  bmRequestType := p0
  bRequest := p1
  wValue := u16le p2 p3
  wIndex := u16le p4 p5
  wLength := u16le p6 p7

/-- The latch that a byte string gives, when it has eight bytes (30_encoding.md R130). -/
def parseSetup : Bytes → Option Setup
  | [p0, p1, p2, p3, p4, p5, p6, p7] => some (setupOf p0 p1 p2 p3 p4 p5 p6 p7)
  | _ => none

/-- The packed word `W` of R112, byte 0 lowest. -/
def Setup.word (p : Setup) : BitVec 64 :=
  p.wLength ++ p.wIndex ++ p.wValue ++ p.bRequest ++ p.bmRequestType

/-- `wValue[15:8]`: the descriptor type of GET_DESCRIPTOR (R115). -/
def highByte (v : Half) : Byte := v.extractLsb' 8 8

/-- `wValue[7:0]`: the descriptor index (R115), the configuration value (R118). -/
def lowByte (v : Half) : Byte := v.extractLsb' 0 8

/-- GET_DESCRIPTOR dispatches on the descriptor type (R115, R116). -/
def decodeGetDescriptor (c : Config) (p : Setup) : Instr :=
  if highByte p.wValue = c.dt.device then
    .getDescriptorDevice p.bmRequestType (lowByte p.wValue) p.wIndex p.wLength
  else if highByte p.wValue = c.dt.configuration then
    .getDescriptorConfiguration p.bmRequestType (lowByte p.wValue) p.wIndex p.wLength
  else if highByte p.wValue = c.dt.string then
    .getDescriptorString p.bmRequestType (lowByte p.wValue) p.wIndex p.wLength
  else if highByte p.wValue = c.dt.hidReport then
    .getDescriptorHidReport p.bmRequestType (lowByte p.wValue) p.wIndex p.wLength
  else
    .getDescriptorUnknownType p.bmRequestType (highByte p.wValue) (lowByte p.wValue) p.wIndex
      p.wLength

/-- GET_STATUS dispatches on the direction bit and the recipient (R119). -/
def decodeGetStatus (p : Setup) : Instr :=
  if p.bmRequestType.getLsbD 7 = true ∧ p.bmRequestType.extractLsb' 0 5 = 0#5 then
    .getStatusDevice (p.bmRequestType.extractLsb' 5 2) p.wValue p.wIndex p.wLength
  else if p.bmRequestType.getLsbD 7 = true ∧ p.bmRequestType.extractLsb' 0 5 = 1#5 then
    .getStatusInterface (p.bmRequestType.extractLsb' 5 2) p.wValue p.wIndex p.wLength
  else if p.bmRequestType.getLsbD 7 = true ∧ p.bmRequestType.extractLsb' 0 5 = 2#5 then
    .getStatusEndpoint (p.bmRequestType.extractLsb' 5 2) p.wValue p.wIndex p.wLength
  else
    .getStatusOther p.bmRequestType p.wValue p.wIndex p.wLength

/-- The request a SETUP packet selects: by `bRequest` alone (R113, R114). Total: every packet is a
request. Under equal codes the first in this order is taken (DESIGN CHOICE, assumption log 4). -/
def decodeSetup (c : Config) (p : Setup) : Instr :=
  if p.bRequest = c.req.getStatus then decodeGetStatus p
  else if p.bRequest = c.req.clearFeature then
    .clearFeature p.bmRequestType p.wValue p.wIndex p.wLength
  else if p.bRequest = c.req.setFeature then
    .setFeature p.bmRequestType p.wValue p.wIndex p.wLength
  else if p.bRequest = c.req.setAddress then
    .setAddress p.bmRequestType (p.wValue.extractLsb' 0 7) (p.wValue.extractLsb' 7 9) p.wIndex
      p.wLength
  else if p.bRequest = c.req.getDescriptor then decodeGetDescriptor c p
  else if p.bRequest = c.req.setDescriptor then
    .setDescriptor p.bmRequestType p.wValue p.wIndex p.wLength
  else if p.bRequest = c.req.getConfiguration then
    .getConfiguration p.bmRequestType p.wValue p.wIndex p.wLength
  else if p.bRequest = c.req.setConfiguration then
    .setConfiguration p.bmRequestType (lowByte p.wValue) (highByte p.wValue) p.wIndex p.wLength
  else if p.bRequest = c.req.getInterface then
    .getInterface p.bmRequestType p.wValue p.wIndex p.wLength
  else if p.bRequest = c.req.setInterface then
    .setInterface p.bmRequestType p.wValue p.wIndex p.wLength
  else if p.bRequest = c.req.syncFrame then
    .syncFrame p.bmRequestType p.wValue p.wIndex p.wLength
  else .unknownRequest p.bmRequestType p.bRequest p.wValue p.wIndex p.wLength

/-! ## Operations invoked by name -/

/-- The operation an `op_sel` byte and its operand bytes give (R127). The codes are the spec's; how
operands follow them is DESIGN CHOICE (assumption log 8): a 32-bit operand as four bytes, least
significant first, a byte string as the rest of the call. -/
def decodeCall (op : Byte) (operands : Bytes) : Except DecodeError Instr :=
  if op = 0x00 then
    if operands = [] then .ok .crcSeed else .error (.operandLength op operands.length)
  else if op = 0x01 then
    match operands with
    | [b0, b1, b2, b3] => .ok (.crcLoad (u32le b0 b1 b2 b3))
    | _ => .error (.operandLength op operands.length)
  else if op = 0x02 then .ok (.crcFeed operands)
  else if op = 0x03 then
    if operands = [] then .ok .crcRaw else .error (.operandLength op operands.length)
  else if op = 0x04 then
    if operands = [] then .ok .crcFinal else .error (.operandLength op operands.length)
  else if op = 0x10 then
    if operands = [] then .ok .poll else .error (.operandLength op operands.length)
  else if op = 0x20 then .ok (.sendFrame operands)
  else .error (.unknownOpSel op)

/-! ## Command frames -/

/-- The command a frame's fields give (R121, R122), which only CONSUMER ever decodes (R123). -/
def decodeFrameFields (c : Config) (op ext1 ext2 ext3 : Word) (payload : Bytes) :
    Except DecodeError Instr :=
  if op = c.op.deviceInfo then .ok (.frameDeviceInfo ext1 ext2 ext3 payload)
  else if op = c.op.setupWrite then .ok (.frameSetupWrite ext1 ext2 ext3 payload)
  else if op = c.op.finishWrite then .ok (.frameFinishWrite ext1 ext2 ext3 payload)
  else if op = c.op.hardwareReset then .ok (.frameHardwareReset ext1 ext2 ext3 payload)
  else if op = c.op.ack then .ok (.frameAck ext1 ext2 ext3 payload)
  else .error (.unknownFrameOpcode op)

/-- A frame of exactly 64 bytes, split as R121 says. -/
def decodeFrame (c : Config) (bytes : Bytes) : Except DecodeError Instr :=
  match bytes with
  | a0 :: a1 :: a2 :: a3 :: b0 :: b1 :: b2 :: b3 :: c0 :: c1 :: c2 :: c3 :: d0 :: d1 :: d2 :: d3
      :: payload =>
    if payload.length = 48 then
      decodeFrameFields c (u32le a0 a1 a2 a3) (u32le b0 b1 b2 b3) (u32le c0 c1 c2 c3)
        (u32le d0 d1 d2 d3) payload
    else .error (.frameLength bytes.length)
  | _ => .error (.frameLength bytes.length)

/-! ## Decode and encode -/

/-- The instruction that the bytes of one word of a format stand for. -/
def decode (c : Config) (f : Format) (bytes : Bytes) : Except DecodeError Instr :=
  match f with
  | .opsel =>
    match bytes with
    | [] => .error .emptyCall
    | op :: operands => decodeCall op operands
  | .setup =>
    match parseSetup bytes with
    | some p => .ok (decodeSetup c p)
    | none => .error (.setupLength bytes.length)
  | .frame => decodeFrame c bytes

/-- The bytes of a frame with the fields of R121. -/
def frameBytes (op ext1 ext2 ext3 : Word) (payload : Bytes) : Bytes :=
  bytes32 op ++ bytes32 ext1 ++ bytes32 ext2 ++ bytes32 ext3 ++ payload

/-- `bmRequestType` of a qualifying GET_STATUS (R119). -/
def statusRequestType (kind : BitVec 2) (recipient : BitVec 5) : Byte :=
  (1#1 ++ kind ++ recipient : BitVec 8)

/-- The bytes of a SETUP packet with these fields. -/
def packet (rt b : Byte) (v i l : Half) : Bytes := (Setup.mk rt b v i l).toBytes

/-- The word of an instruction, from the same tables as `decode`. -/
def encode (c : Config) : Instr → Bytes
  | .crcSeed => [0x00]
  | .crcLoad v => 0x01 :: bytes32 v
  | .crcFeed s => 0x02 :: s
  | .crcRaw => [0x03]
  | .crcFinal => [0x04]
  | .poll => [0x10]
  | .sendFrame s => 0x20 :: s
  | .getDescriptorDevice rt i x l => packet rt c.req.getDescriptor (u16le i c.dt.device) x l
  | .getDescriptorConfiguration rt i x l =>
    packet rt c.req.getDescriptor (u16le i c.dt.configuration) x l
  | .getDescriptorString rt i x l => packet rt c.req.getDescriptor (u16le i c.dt.string) x l
  | .getDescriptorHidReport rt i x l =>
    packet rt c.req.getDescriptor (u16le i c.dt.hidReport) x l
  | .getDescriptorUnknownType rt t i x l => packet rt c.req.getDescriptor (u16le i t) x l
  | .getStatusDevice k v x l => packet (statusRequestType k 0#5) c.req.getStatus v x l
  | .getStatusInterface k v x l => packet (statusRequestType k 1#5) c.req.getStatus v x l
  | .getStatusEndpoint k v x l => packet (statusRequestType k 2#5) c.req.getStatus v x l
  | .getStatusOther rt v x l => packet rt c.req.getStatus v x l
  | .clearFeature rt v x l => packet rt c.req.clearFeature v x l
  | .setFeature rt v x l => packet rt c.req.setFeature v x l
  | .setAddress rt a h x l => packet rt c.req.setAddress (h ++ a : BitVec 16) x l
  | .setDescriptor rt v x l => packet rt c.req.setDescriptor v x l
  | .getConfiguration rt v x l => packet rt c.req.getConfiguration v x l
  | .setConfiguration rt v h x l => packet rt c.req.setConfiguration (u16le v h) x l
  | .getInterface rt v x l => packet rt c.req.getInterface v x l
  | .setInterface rt v x l => packet rt c.req.setInterface v x l
  | .syncFrame rt v x l => packet rt c.req.syncFrame v x l
  | .unknownRequest rt b v x l => packet rt b v x l
  | .frameDeviceInfo e1 e2 e3 p => frameBytes c.op.deviceInfo e1 e2 e3 p
  | .frameSetupWrite e1 e2 e3 p => frameBytes c.op.setupWrite e1 e2 e3 p
  | .frameFinishWrite e1 e2 e3 p => frameBytes c.op.finishWrite e1 e2 e3 p
  | .frameHardwareReset e1 e2 e3 p => frameBytes c.op.hardwareReset e1 e2 e3 p
  | .frameAck e1 e2 e3 p => frameBytes c.op.ack e1 e2 e3 p

/-! ## The opcode table's SETUP rows (R112) -/

/-- A row of spec/opcode_table.json of format SETUP: it selects a packet when
`(W and mask) = value`; the lowest `priority` among the rows that match selects (R112). -/
structure TableRow where
  mnemonic : String
  value    : BitVec 64
  mask     : BitVec 64
  priority : Nat
deriving DecidableEq, Repr

/-- The 19 SETUP rows of spec/opcode_table.json, under the default codes. -/
def setupRows : List TableRow :=
  [⟨"GET_DESCRIPTOR_DEVICE", 0x0000000001000600, 0x00000000FF00FF00, 1⟩,
    ⟨"GET_DESCRIPTOR_CONFIGURATION", 0x0000000002000600, 0x00000000FF00FF00, 1⟩,
    ⟨"GET_DESCRIPTOR_STRING", 0x0000000003000600, 0x00000000FF00FF00, 1⟩,
    ⟨"GET_DESCRIPTOR_HID_REPORT", 0x0000000022000600, 0x00000000FF00FF00, 1⟩,
    ⟨"GET_DESCRIPTOR_UNKNOWN_TYPE", 0x0000000000000600, 0x000000000000FF00, 2⟩]
  ++ [⟨"GET_STATUS_DEVICE", 0x0000000000000080, 0x000000000000FF9F, 1⟩,
    ⟨"GET_STATUS_INTERFACE", 0x0000000000000081, 0x000000000000FF9F, 1⟩,
    ⟨"GET_STATUS_ENDPOINT", 0x0000000000000082, 0x000000000000FF9F, 1⟩,
    ⟨"GET_STATUS_OTHER", 0x0000000000000000, 0x000000000000FF00, 2⟩]
  ++ [⟨"CLEAR_FEATURE", 0x0000000000000100, 0x000000000000FF00, 1⟩,
    ⟨"SET_FEATURE", 0x0000000000000300, 0x000000000000FF00, 1⟩,
    ⟨"SET_ADDRESS", 0x0000000000000500, 0x000000000000FF00, 1⟩,
    ⟨"SET_DESCRIPTOR", 0x0000000000000700, 0x000000000000FF00, 1⟩,
    ⟨"GET_CONFIGURATION", 0x0000000000000800, 0x000000000000FF00, 1⟩,
    ⟨"SET_CONFIGURATION", 0x0000000000000900, 0x000000000000FF00, 1⟩]
  ++ [⟨"GET_INTERFACE", 0x0000000000000A00, 0x000000000000FF00, 1⟩,
    ⟨"SET_INTERFACE", 0x0000000000000B00, 0x000000000000FF00, 1⟩,
    ⟨"SYNC_FRAME", 0x0000000000000C00, 0x000000000000FF00, 1⟩,
    ⟨"UNKNOWN_REQUEST", 0x0000000000000000, 0x0000000000000000, 3⟩]

/-- The row matches the packed word (R112). -/
def TableRow.selects (r : TableRow) (w : BitVec 64) : Bool := w &&& r.mask == r.value

/-- The instruction's row in spec/opcode_table.json. -/
def Instr.mnemonic : Instr → String
  | .crcSeed => "CRC_SEED"
  | .crcLoad _ => "CRC_LOAD"
  | .crcFeed _ => "CRC_FEED"
  | .crcRaw => "CRC_RAW"
  | .crcFinal => "CRC_FINAL"
  | .poll => "POLL"
  | .sendFrame _ => "SEND_FRAME"
  | .getDescriptorDevice _ _ _ _ => "GET_DESCRIPTOR_DEVICE"
  | .getDescriptorConfiguration _ _ _ _ => "GET_DESCRIPTOR_CONFIGURATION"
  | .getDescriptorString _ _ _ _ => "GET_DESCRIPTOR_STRING"
  | .getDescriptorHidReport _ _ _ _ => "GET_DESCRIPTOR_HID_REPORT"
  | .getDescriptorUnknownType _ _ _ _ _ => "GET_DESCRIPTOR_UNKNOWN_TYPE"
  | .getStatusDevice _ _ _ _ => "GET_STATUS_DEVICE"
  | .getStatusInterface _ _ _ _ => "GET_STATUS_INTERFACE"
  | .getStatusEndpoint _ _ _ _ => "GET_STATUS_ENDPOINT"
  | .getStatusOther _ _ _ _ => "GET_STATUS_OTHER"
  | .clearFeature _ _ _ _ => "CLEAR_FEATURE"
  | .setFeature _ _ _ _ => "SET_FEATURE"
  | .setAddress _ _ _ _ _ => "SET_ADDRESS"
  | .setDescriptor _ _ _ _ => "SET_DESCRIPTOR"
  | .getConfiguration _ _ _ _ => "GET_CONFIGURATION"
  | .setConfiguration _ _ _ _ _ => "SET_CONFIGURATION"
  | .getInterface _ _ _ _ => "GET_INTERFACE"
  | .setInterface _ _ _ _ => "SET_INTERFACE"
  | .syncFrame _ _ _ _ => "SYNC_FRAME"
  | .unknownRequest _ _ _ _ _ => "UNKNOWN_REQUEST"
  | .frameDeviceInfo _ _ _ _ => "FRAME_DEVICE_INFO"
  | .frameSetupWrite _ _ _ _ => "FRAME_SETUP_WRITE"
  | .frameFinishWrite _ _ _ _ => "FRAME_FINISH_WRITE"
  | .frameHardwareReset _ _ _ _ => "FRAME_HARDWARE_RESET"
  | .frameAck _ _ _ _ => "FRAME_ACK"

/-! ## Words numbered as spec/opcode_table.json numbers them -/

/-- The first `n` bytes of `w`, bit 0 the least significant bit of the first byte. -/
def tableBytes (n w : Nat) : Bytes :=
  (List.range n).map fun k => BitVec.ofNat 8 (w >>> (8 * k))

/-- The format of a table word: an OPSEL row has 8 bits; a FRAME row 32, its opcode; every other
width, and a 32-bit word that is no frame opcode, is a SETUP packet. -/
def tableFormat (nbits w : Nat) : Format :=
  if nbits ≤ 8 then .opsel
  else if nbits = 32 ∧ (Config.default.op.toList.contains (BitVec.ofNat 32 w)
    ∧ w < 2 ^ 32) then .frame
  else .setup

/-- The bytes of the whole instruction a table word stands for: the operand words the table gives no
bits are zero. -/
def tableInstrBytes (nbits w : Nat) : Bytes :=
  match tableFormat nbits w with
  | .opsel => if w = 1 then tableBytes 5 w else tableBytes 1 w
  | .setup => tableBytes 8 w
  | .frame => tableBytes 64 w

/-- The instruction the decoder reads from a table word, under the default codes. -/
def decodeTableWord (nbits w : Nat) : Option Instr :=
  match decode Config.default (tableFormat nbits w) (tableInstrBytes nbits w) with
  | .ok i => some i
  | .error _ => none

end Sys2Proof
end

