-- ==== Sys2Proof/Machine/State.lean ====
section
/-! DEFINITION. The state of the block as plain data (spec/10_state.md, with CONSUMER's storage of
spec/44_environment.md R283), the reasons a step can stop, and the state after reset (R60). -/

namespace Sys2Proof.Machine

/-! ## Endpoints (10_state.md R30 to R45) -/

/-- Endpoint type with direction (R34); the spec gives no numeric encoding (N27). -/
inductive EpType where
  | control
  | interruptOut
  | interruptIn
deriving DecidableEq, Repr

/-- A delayed write not yet reflected (R43). -/
inductive Req where
  | none
  | set
  | clr
deriving DecidableEq, Repr

/-- The CSR record of an endpoint (R32). Fields that no rule touches on an endpoint stay at their
reset value there. -/
structure Endpoint where
  enabled    : Bool
  eptype     : EpType
  rxSetup    : Bool
  rxBank0    : Bool
  rxBank1    : Bool
  rxCount0   : Nat
  rxCount1   : Nat
  rxFifo0    : Bytes
  rxFifo1    : Bytes
  txFifo     : Bytes
  txTrigger  : Bool
  txAcked    : Bool
  dir        : Bool
  dirReq     : Req
  rxSetupReq : Req
  rxBank0Req : Req
  rxBank1Req : Req
  txAckedReq : Req
deriving DecidableEq, Repr

/-- Every flag 0, every count 0, every FIFO empty, no request, disabled (R60). The type is
unspecified: DESIGN CHOICE Control (assumption log 2). -/
def Endpoint.reset : Endpoint where
  enabled := false
  eptype := .control
  rxSetup := false
  rxBank0 := false
  rxBank1 := false
  rxCount0 := 0
  rxCount1 := 0
  rxFifo0 := []
  rxFifo1 := []
  txFifo := []
  txTrigger := false
  txAcked := false
  dir := false
  dirReq := .none
  rxSetupReq := .none
  rxBank0Req := .none
  rxBank1Req := .none
  txAckedReq := .none

/-- A receive bank of EP1 (00_scope.md R14). -/
inductive Bank where
  | b0
  | b1
deriving DecidableEq, Repr

/-- The endpoints that transmit: EP0 and EP2 (R32). -/
inductive TxEp where
  | ep0
  | ep2
deriving DecidableEq, Repr

/-- The handshaked flags (20_memory.md R92). -/
inductive Flag where
  | ep0Dir
  | ep0RxSetup
  | ep0TxAcked
  | ep2TxAcked
  | ep1RxBank (b : Bank)
deriving DecidableEq, Repr

/-! ## The sequencer position (10_state.md R50 to R53) -/

/-- Why the device is fail-stopped (60_exceptions.md R300). -/
inductive Reason where
  | malformedFrame
  | unknownOpcode
  | handshakeStall
deriving DecidableEq, Repr

/-- The byte source of a transmission (20_memory.md R75): a ROM space, or a byte string sampled when
the transfer starts. -/
inductive Src where
  | romDevice
  | romConfig
  | romHidReport
  | romString (index : Nat)
  | bytes (b : Bytes)
deriving DecidableEq, Repr

/-- The transfer working registers `tx_src`, `tx_off`, `tx_rem` (R25). -/
structure Tx where
  src : Src
  off : Nat
  rem : Nat
deriving DecidableEq, Repr

/-- What the request still does after its zero-length status reply: nothing, or SET_ADDRESS's
programming of the address (42_usb_requests.md R216). -/
inductive AfterZlp where
  | nothing
  | setAddress (addr : BitVec 7)
deriving DecidableEq, Repr

/-- Where SEND_FRAME returns: to LOOP, or to the dispatch of `frame` with `rest` the banks still to be
tested (43_hid_framer.md R251). -/
inductive Caller where
  | loop
  | consumer (frame : Bytes) (rest : List Bank)
deriving DecidableEq, Repr

/-- The hold points with the locals that are live there (R51): the set is closed. -/
inductive Hold where
  | dir
  | setupClr
  | ctlTx (t : Tx)
  | ctlAckClr (t : Tx)
  | zlpTx (after : AfterZlp)
  | zlpAckClr (after : AfterZlp)
  | rxClr (b : Bank) (rest : List Bank)
  | dispatch (frame : Bytes) (rest : List Bank)
  | frmTx (t : Tx) (caller : Caller)
  | frmAckClr (t : Tx) (caller : Caller)
deriving DecidableEq, Repr

/-- `seq` (R50). `serviced` is no live local: at every hold point inside a POLL the step in progress
makes the POLL return true (41_usb_poll_control.md R181). -/
inductive Seq where
  | idle
  | hold (h : Hold)
  | halted (r : Reason)
deriving DecidableEq, Repr

/-! ## Link, observation, moves -/

/-- The Device Link State (R26). -/
inductive Link where
  | detached
  | default
  | addressed
  | configured
deriving DecidableEq, Repr

/-- The observable events (00_scope.md R13). -/
inductive Event where
  | toHost (ep : TxEp) (bytes : Bytes)
  | dispatch (frame : Bytes)
  | pollReturn (serviced : Bool)
  | halt (reason : Reason)
  | crcResult (value : Word)
deriving DecidableEq, Repr

/-- The moves of the agents, one per line of a script (30_encoding.md R131): the ENGINE's turn; an
operation invoked by LOOP, CONSUMER or CRCCLIENT; CONSUMER's own; BUS's; WATCHDOG's. -/
inductive Move where
  | engine
  | invoke (call : Bytes)
  | serveFrame
  | consumerReturn
  | consumerHalt (reason : Reason)
  | busReset
  | busSetup (p : Bytes)
  | busOut (b : Bank) (d : Bytes)
  | busInAck (n : TxEp)
  | reflect (f : Flag)
  | restart
deriving DecidableEq, Repr

/-! ## Memory: CONSUMER's flash (44_environment.md R283) -/

/-- Bytes by address, in one canonical form (`Memory.wf` in Machine/Ops.lean). -/
abbrev Memory := List Host.Cell

/-! ## The state -/

/-- Every piece of state the spec gives the machine, and three fields of the model's own: `cfg`, which
holds the build-time parameters, `script`, and `freeCount` (assumption log 1, 4, 7). -/
structure State where
  /-- The CRC accumulator (R21). -/
  crcAcc : Word
  /-- The SETUP latch (R22). -/
  setup : Setup
  /-- The Receive Reassembly Buffer (R23), the space RXBUF. -/
  rxBuf : Vector Byte 64
  /-- Bytes gathered so far (R24). -/
  rxCnt : Nat
  /-- The sequencer position (R50). -/
  seq : Seq
  /-- The Device Link State (R26). -/
  link : Link
  /-- `CurrentConfiguration` (R27). -/
  curCfg : Byte
  /-- The programmed device address (R28). -/
  devAddr : BitVec 7
  /-- The pending bus-reset flag (R29). -/
  busResetPending : Bool
  /-- EP0, control (R30). -/
  ep0 : Endpoint
  /-- EP1, interrupt-OUT (R30). -/
  ep1 : Endpoint
  /-- EP2, interrupt-IN (R30). -/
  ep2 : Endpoint
  /-- BUS's next bank under `BANK_FILL_POLICY = alternate` (44_environment.md R272). -/
  fillNext : Bank
  /-- Failed tests of the current hold, read only under a `SPIN_CAP` (20_memory.md R96). -/
  spin : Nat
  /-- The observation history, oldest first (00_scope.md R13). -/
  history : List Event
  /-- The build-time parameters, the descriptor ROM among them (00_scope.md R9). -/
  cfg : Config
  /-- CONSUMER's write-staging area (44_environment.md R283). -/
  staging : Vector Byte 256
  /-- CONSUMER's flash (44_environment.md R283). -/
  flash : Memory
  /-- The moves still to come: the model's own field (assumption log 1). -/
  script : List Move
  /-- How many free values have been drawn: the model's own field (assumption log 7). -/
  freeCount : Nat
deriving DecidableEq, Repr

/-! ## Why a step stops -/

/-- Stuck states the spec asks for. Both are unreachable from a good state. -/
inductive Fault where
  /-- A transmit FIFO loaded while not empty or while its trigger is set: raised by SendControl and
  SendFrame (70_reset_and_hazards.md R356, U7: "the model is stuck there"). Safe. -/
  | txFifoBusy
  /-- MemRead outside a storage space, which R71 (20_memory.md) does not define: raised by SendControl
  and SendFrame, and by GET_DESCRIPTOR String on an empty string. Safe. -/
  | memReadRange
deriving DecidableEq, Repr

/-- Moves the model does not have. -/
inductive Refusal where
  /-- An instruction with no meaning yet: raised by exec's arms only. Safe. -/
  | notModelled (mnemonic : String)
  /-- A configuration the spec says to refuse: raised by step (20_memory.md R72, 44_environment.md
  R276, U6, U12). Safe. -/
  | badConfiguration
  /-- An invocation that is none of the operations: raised by step (30_encoding.md R127: "a model
  refuses it"). Safe. -/
  | badCall (e : DecodeError)
  /-- POLL or SEND_FRAME invoked when its invoker does not run: raised by their meanings
  (44_environment.md R284, 43_hid_framer.md R251). Safe. -/
  | engineBusy
  /-- A CONSUMER move when the ENGINE is not at HP_DISPATCH, or a halt reason CONSUMER does not have:
  raised by CONSUMER's moves (44_environment.md R280, R281). Safe. -/
  | notConsumersTurn
  /-- A BUS move whose precondition is false: raised by BUS's moves (44_environment.md R271, R272,
  R274, R275; U5, U8: "no such move"). Safe, but the hardware may have such a move (R277). -/
  | noSuchBusMove
deriving DecidableEq, Repr

/-- What a step answers. -/
abbrev Result := Host.Outcome State Fault Refusal

/-! ## Reset (10_state.md R60, 70_reset_and_hazards.md R341) -/

/-- The machine after power-on. The values the spec leaves unspecified (`crcAcc`, `setup`, `rxBuf`,
endpoint types) and those it does not give at all (`cfg.rom`, `staging`, `flash`) are DESIGN CHOICES
(assumption logs 2, 4, 5, 6). -/
def State.reset : State where
  crcAcc := 0
  setup := ⟨0, 0, 0, 0, 0⟩
  rxBuf := Vector.replicate 64 0
  rxCnt := 0
  seq := .idle
  link := .detached
  curCfg := 0
  devAddr := 0
  busResetPending := false
  ep0 := Endpoint.reset
  ep1 := Endpoint.reset
  ep2 := Endpoint.reset
  fillNext := .b0
  spin := 0
  history := []
  cfg := Config.default
  staging := Vector.replicate 256 0
  flash := []
  script := []
  freeCount := 0

end Sys2Proof.Machine
end

