-- ==== Sys2Proof/Machine/Operands.lean ====
section
/-! DEFINITION. Operand forms: request-type bits, byte sources and their reads, chunks, lengths, page
addresses (spec/20_memory.md, spec/30_encoding.md). Functions of operands and configuration only. -/

namespace Sys2Proof.Machine

/-- The direction bit of `bmRequestType`: set for device to host (30_encoding.md R111). -/
def directionIn (rt : Byte) : Bool := rt.getLsbD 7

/-- The storage space a byte source names (20_memory.md R72, R75). A string index outside the table
names an empty space. -/
def srcBytes (c : Config) : Src → Bytes
  | .romDevice => c.rom.device
  | .romConfig => c.rom.config
  | .romHidReport => c.rom.hidReport
  | .romString i => c.rom.strings.getD i []
  | .bytes b => b

/-- `MemRead(space, addr, n)`, defined only inside the space (20_memory.md R71). -/
def memRead (space : Bytes) (addr n : Nat) : Option Bytes :=
  if addr + n ≤ space.length then some ((space.drop addr).take n) else none

/-- The length of the next chunk, `min(tx_rem, 8)` (20_memory.md R86). -/
def chunkLen (t : Tx) : Nat := min t.rem fifoDepth

/-- The working registers after a chunk (41_usb_poll_control.md R190). -/
def Tx.advance (t : Tx) : Tx := { t with off := t.off + chunkLen t, rem := t.rem - chunkLen t }

/-- The next chunk of a transfer. -/
def nextChunk (c : Config) (t : Tx) : Option Bytes := memRead (srcBytes c t.src) t.off (chunkLen t)

/-- The reply length `min(descriptor length, requested length)` (42_usb_requests.md R210). -/
def replyLen (descLen : Nat) (wLength : Half) : Nat := min descLen wLength.toNat

/-- The banks in the order the receive handler tests them (43_hid_framer.md R240). -/
def bankOrder : RxBankOrder → List Bank
  | .bank0First => [.b0, .b1]
  | .bank1First => [.b1, .b0]

/-- The other bank. -/
def Bank.other : Bank → Bank
  | .b0 => .b1
  | .b1 => .b0

/-- The first address of the flash page that holds `addr` (44_environment.md R283). -/
def pageBase (addr : Word) : Nat := addr.toNat - addr.toNat % pageLen

/-- The frame `ACK(F)` of a frame with these fields: F with its opcode replaced (30_encoding.md R124). -/
def ackFrame (c : Config) (ext1 ext2 ext3 : Word) (payload : Bytes) : Bytes :=
  frameBytes c.op.ack ext1 ext2 ext3 payload

end Sys2Proof.Machine
end

