-- ==== Sys2Proof/Machine/Flags.lean ====
section
/-! DEFINITION. Every flag computation: the handshaked flags and their delayed writes (spec/20_memory.md
R92, spec/10_state.md R43, spec/44_environment.md R275), the pending tests of POLL (10_state.md R44),
and the per-bank fields of EP1. -/

namespace Sys2Proof.Machine

/-! ## Banks of EP1 (10_state.md R36 to R38) -/

/-- The pending-receive flag of a bank. -/
def Endpoint.bankFlag (e : Endpoint) : Bank → Bool
  | .b0 => e.rxBank0
  | .b1 => e.rxBank1

/-- The byte count of a bank. -/
def Endpoint.bankCount (e : Endpoint) : Bank → Nat
  | .b0 => e.rxCount0
  | .b1 => e.rxCount1

/-- The receive FIFO of a bank. -/
def Endpoint.bankFifo (e : Endpoint) : Bank → Bytes
  | .b0 => e.rxFifo0
  | .b1 => e.rxFifo1

/-- The delayed write outstanding on a bank's flag. -/
def Endpoint.bankReq (e : Endpoint) : Bank → Req
  | .b0 => e.rxBank0Req
  | .b1 => e.rxBank1Req

/-- Replace a bank's FIFO contents. -/
def Endpoint.setBankFifo (e : Endpoint) (b : Bank) (q : Bytes) : Endpoint :=
  match b with
  | .b0 => { e with rxFifo0 := q }
  | .b1 => { e with rxFifo1 := q }

/-- Record a delayed write of a bank's flag. -/
def Endpoint.setBankReq (e : Endpoint) (b : Bank) (r : Req) : Endpoint :=
  match b with
  | .b0 => { e with rxBank0Req := r }
  | .b1 => { e with rxBank1Req := r }

/-- Write a bank's flag. -/
def Endpoint.setBankFlag (e : Endpoint) (b : Bank) (v : Bool) : Endpoint :=
  match b with
  | .b0 => { e with rxBank0 := v }
  | .b1 => { e with rxBank1 := v }

/-- A packet put into a bank: FIFO, count and flag together (20_memory.md R91). -/
def Endpoint.fillBank (e : Endpoint) (b : Bank) (d : Bytes) : Endpoint :=
  match b with
  | .b0 => { e with rxFifo0 := d, rxCount0 := d.length, rxBank0 := true }
  | .b1 => { e with rxFifo1 := d, rxCount1 := d.length, rxBank1 := true }

/-! ## Handshaked flags -/

/-- What a read of a handshaked flag returns. -/
def readFlag (f : Flag) (s : State) : Bool :=
  match f with
  | .ep0Dir => s.ep0.dir
  | .ep0RxSetup => s.ep0.rxSetup
  | .ep0TxAcked => s.ep0.txAcked
  | .ep2TxAcked => s.ep2.txAcked
  | .ep1RxBank b => s.ep1.bankFlag b

/-- The delayed write outstanding on a flag (10_state.md R43). -/
def flagReq (f : Flag) (s : State) : Req :=
  match f with
  | .ep0Dir => s.ep0.dirReq
  | .ep0RxSetup => s.ep0.rxSetupReq
  | .ep0TxAcked => s.ep0.txAckedReq
  | .ep2TxAcked => s.ep2.txAckedReq
  | .ep1RxBank b => s.ep1.bankReq b

/-- `f <-req v`: record the write; a read of the flag is unchanged (20_memory.md R92). -/
def requestFlag (f : Flag) (r : Req) (s : State) : State :=
  match f with
  | .ep0Dir => { s with ep0 := { s.ep0 with dirReq := r } }
  | .ep0RxSetup => { s with ep0 := { s.ep0 with rxSetupReq := r } }
  | .ep0TxAcked => { s with ep0 := { s.ep0 with txAckedReq := r } }
  | .ep2TxAcked => { s with ep2 := { s.ep2 with txAckedReq := r } }
  | .ep1RxBank b => { s with ep1 := s.ep1.setBankReq b r }

/-- The flag takes a value and its request is gone: the hardware shows the write (44_environment.md
R275). -/
def showFlag (f : Flag) (v : Bool) (s : State) : State :=
  match f with
  | .ep0Dir => { s with ep0 := { s.ep0 with dir := v, dirReq := .none } }
  | .ep0RxSetup => { s with ep0 := { s.ep0 with rxSetup := v, rxSetupReq := .none } }
  | .ep0TxAcked => { s with ep0 := { s.ep0 with txAcked := v, txAckedReq := .none } }
  | .ep2TxAcked => { s with ep2 := { s.ep2 with txAcked := v, txAckedReq := .none } }
  | .ep1RxBank b => { s with ep1 := (s.ep1.setBankFlag b v).setBankReq b .none }

/-! ## Pending events (10_state.md R44) -/

/-- EP1 has a pending receive event: POLL step 3's test (41_usb_poll_control.md R180). -/
def ep1Pending (s : State) : Bool := s.ep1.rxBank0 || s.ep1.rxBank1

end Sys2Proof.Machine
end

