-- ==== Sys2Proof/Machine/Ops.lean ====
section
/-! DEFINITION. The named operations over registers, FIFOs, buffers and flash that the meanings share:
results, the sequencer position, events, the fail-stop and the restart that leaves it, FifoPop,
FifoLoad, endpoint reset, RXBUF and staging writes, the canonical flash memory (spec/00_scope.md R11,
spec/20_memory.md, spec/60_exceptions.md R305). -/

namespace Sys2Proof.Machine

/-! ## Results -/

/-- The next state, if the step has one. -/
def nextState (r : Result) : Option State :=
  match r with
  | .next s => some s
  | .fault _ => none
  | .refused _ => none

/-- Go on from a next state. -/
def andThen (r : Result) (k : State → Result) : Result :=
  match r with
  | .next s => k s
  | .fault e => .fault e
  | .refused e => .refused e

/-! ## Position, events, fail-stop, restart -/

/-- The ENGINE comes to a hold point; its iteration counter starts at 0 (10_state.md R51, 20_memory.md
R96). -/
def goto (h : Hold) (s : State) : State := { s with seq := .hold h, spin := 0 }

/-- `emit`: append an event to the observation history (00_scope.md R11). -/
def emit (e : Event) (s : State) : State := { s with history := s.history ++ [e] }

/-- `halt reason`, the entry into a fail-stop, this block's taking of an exception: emit Halt, the
position becomes Halted, nothing else changes (60_exceptions.md R305). -/
def halt (r : Reason) (s : State) : State := { emit (.halt r) s with seq := .halted r }

/-! ### Free values (assumption log 7) -/

/-- The free bytes `k`, `k+1`, …, `k+n-1`. -/
def freeBytes : Nat → Nat → Bytes
  | 0, _ => []
  | n + 1, k => Config.freeByte k :: freeBytes n (k + 1)

/-- A free endpoint type. -/
def freeEpType (k : Nat) : EpType :=
  if (Config.freeByte k).toNat % 3 = 0 then .control
  else if (Config.freeByte k).toNat % 3 = 1 then .interruptOut
  else .interruptIn

/-- How many free bytes a restart draws: `crcAcc` 4, `setup` 8, endpoint types 3, `rxBuf` 64,
`staging` 256. -/
def restartDraws : Nat := 335

/-- The SETUP latch of eight free bytes. -/
def freeSetup (k : Nat) : Setup :=
  setupOf (Config.freeByte k) (Config.freeByte (k + 1)) (Config.freeByte (k + 2))
    (Config.freeByte (k + 3)) (Config.freeByte (k + 4)) (Config.freeByte (k + 5))
    (Config.freeByte (k + 6)) (Config.freeByte (k + 7))

/-- The WATCHDOG's restart, the only way out of a fail-stop (44_environment.md R286, 60_exceptions.md
R315): every element takes its power-on value (10_state.md R60). What R60 leaves unspecified is a free
value (assumption log 7). The history stays (R54), and so do the build-time parameters, the durable
flash and the moves to come (assumption logs 1, 4, 6). -/
def restart (s : State) : State :=
  { State.reset with
    crcAcc := u32le (Config.freeByte s.freeCount) (Config.freeByte (s.freeCount + 1))
      (Config.freeByte (s.freeCount + 2)) (Config.freeByte (s.freeCount + 3))
    setup := freeSetup (s.freeCount + 4)
    ep0 := { Endpoint.reset with eptype := freeEpType (s.freeCount + 12) }
    ep1 := { Endpoint.reset with eptype := freeEpType (s.freeCount + 13) }
    ep2 := { Endpoint.reset with eptype := freeEpType (s.freeCount + 14) }
    rxBuf := Vector.ofFn fun i => Config.freeByte (s.freeCount + 15 + i.val)
    staging := Vector.ofFn fun i => Config.freeByte (s.freeCount + 79 + i.val)
    freeCount := s.freeCount + restartDraws
    history := s.history
    cfg := s.cfg
    flash := s.flash
    script := s.script }

/-! ## FIFOs (20_memory.md R88, R89) -/

/-- What `n` calls of FifoPop give: the bytes, the FIFO left, and the free values drawn. A pop of an
empty FIFO gives a free value (93_implementation_defined.md U9, assumption log 7). -/
def popBytes : Nat → Bytes → Nat → Bytes × Bytes × Nat
  | 0, q, k => ([], q, k)
  | n + 1, [], k =>
    (Config.freeByte k :: (popBytes n [] (k + 1)).1, (popBytes n [] (k + 1)).2)
  | n + 1, b :: q, k => (b :: (popBytes n q k).1, (popBytes n q k).2)

/-- The CSR of a transmitting endpoint. -/
def txEndpoint (n : TxEp) (s : State) : Endpoint :=
  match n with
  | .ep0 => s.ep0
  | .ep2 => s.ep2

/-- Replace the CSR of a transmitting endpoint. -/
def setTxEndpoint (n : TxEp) (e : Endpoint) (s : State) : State :=
  match n with
  | .ep0 => { s with ep0 := e }
  | .ep2 => { s with ep2 := e }

/-- The acknowledged flag of a transmitting endpoint (10_state.md R41). -/
def ackFlag : TxEp → Flag
  | .ep0 => .ep0TxAcked
  | .ep2 => .ep2TxAcked

/-- `EP[n].tx_trigger <- 1`, an immediate write (20_memory.md R93). -/
def trigger (n : TxEp) (s : State) : State :=
  setTxEndpoint n { txEndpoint n s with txTrigger := true } s

/-- FifoLoad and trigger of one chunk. Loading a FIFO that is not empty or whose trigger is set is
stuck (70_reset_and_hazards.md R356, 93_implementation_defined.md U7). -/
def loadAndTrigger (n : TxEp) (chunk : Bytes) (s : State) : Result :=
  if (txEndpoint n s).txFifo = [] ∧ (txEndpoint n s).txTrigger = false then
    .next (trigger n (setTxEndpoint n { txEndpoint n s with txFifo := chunk } s))
  else .fault .txFifoBusy

/-! ## Endpoint reset (41_usb_poll_control.md R183) -/

/-- EndpointReset: disabled, flags and counts 0, FIFOs empty, requests none; the type stays. -/
def Endpoint.cleared (e : Endpoint) : Endpoint := { Endpoint.reset with eptype := e.eptype }

/-! ## RXBUF and the staging area -/

/-- Byte writes at rising offsets. Every caller inside the block keeps within the buffer; bytes past
its end are dropped. -/
def storeBytes {n : Nat} (buf : Vector Byte n) : Nat → Bytes → Vector Byte n
  | _, [] => buf
  | off, b :: bs => storeBytes (buf.setIfInBounds off b) (off + 1) bs

/-! ## Flash memory -/

namespace Memory

/-- DESIGN CHOICE (assumption log 6): a byte nothing has programmed reads as an erased byte. -/
def unlisted : Byte := 0xFF#8

/-- The byte at an address. -/
def read : Memory → Nat → Byte
  | [], _ => unlisted
  | (a', b) :: m, a => if a' = a then b else read m a

/-- Write one byte, keeping the canonical form. -/
def write : Memory → Nat → Byte → Memory
  | [], a, b => if b = unlisted then [] else [(a, b)]
  | (a', b') :: m, a, b =>
    if a < a' then if b = unlisted then (a', b') :: m else (a, b) :: (a', b') :: m
    else if a = a' then if b = unlisted then m else (a, b) :: m
    else (a', b') :: write m a b

/-- Write bytes at rising addresses. -/
def writeBytes : Memory → Nat → Bytes → Memory
  | m, _, [] => m
  | m, a, b :: bs => writeBytes (write m a b) (a + 1) bs

/-- The canonical form: addresses strictly rising, no entry equal to what an unlisted address reads
as. -/
abbrev wf (m : Memory) : Prop :=
  m.Pairwise (fun x y => x.1 < y.1) ∧ ∀ x ∈ m, x.2 ≠ unlisted

end Memory

end Sys2Proof.Machine
end

