-- ==== Sys2Proof/Machine/Transmit.lean ====
section
/-! DEFINITION. The HIDF unit's transmission, SEND_FRAME (spec/43_hid_framer.md R250 to R253). -/

namespace Sys2Proof.Machine

/-- SendFrame returns to its caller: to LOOP, or to CONSUMER at HP_DISPATCH (R251). -/
def frameReturn : Caller → State → State
  | .loop, s => { s with seq := .idle }
  | .consumer frame rest, s => goto (.dispatch frame rest) s

/-- SendFrame's loop up to its next hold point (R250). -/
def sendFrameLoop (t : Tx) (caller : Caller) (s : State) : Result :=
  if t.rem = 0 then .next (frameReturn caller s)
  else
    match nextChunk s.cfg t with
    | none => .fault .memReadRange
    | some chunk => andThen (loadAndTrigger .ep2 chunk s) fun s => .next (goto (.frmTx t caller) s)

/-- `SendFrame(bytes, length)` for a caller: the length is not checked against 64 (R252). -/
def startSendFrame (bytes : Bytes) (caller : Caller) (s : State) : Result :=
  sendFrameLoop ⟨.bytes bytes, 0, bytes.length⟩ caller s

/-- SendFrame at HP_FRM_TX, its condition true (R250). -/
def afterFrmTx (t : Tx) (caller : Caller) (s : State) : State :=
  goto (.frmAckClr t caller) (requestFlag .ep2TxAcked .clr s)

/-- SEND_FRAME s: LOOP invokes it when Idle, CONSUMER when the ENGINE is at HP_DISPATCH, nobody at any
other time (R251). -/
def execSendFrame (bytes : Bytes) (s : State) : Result :=
  match s.seq with
  | .idle => startSendFrame bytes .loop s
  | .hold (.dispatch frame rest) => startSendFrame bytes (.consumer frame rest) s
  | _ => .refused .engineBusy

end Sys2Proof.Machine
end

