-- ==== Sys2Proof/Machine/Consumer.lean ====
section
/-! DEFINITION. The command frames, one meaning per FRAME row: what CONSUMER does with a frame handed to
it, as spec/44_environment.md R283 transcribes it, ending in the reply's SEND_FRAME. CONSUMER moves only
at HP_DISPATCH (R280). -/

namespace Sys2Proof.Machine

/-- A move of CONSUMER: it exists only while the ENGINE is at HP_DISPATCH (R280). -/
def atDispatch (s : State) (k : Bytes → List Bank → Result) : Result :=
  match s.seq with
  | .hold (.dispatch frame rest) => k frame rest
  | _ => .refused .notConsumersTurn

/-- The reply: the frame echoed with its opcode overwritten by the ACK sentinel, sent by SEND_FRAME
nested in the dispatch (R283, 30_encoding.md R124). -/
def replyAck (ext1 ext2 ext3 : Word) (payload : Bytes) (s : State) : Result :=
  atDispatch s fun frame rest =>
    startSendFrame (ackFrame s.cfg ext1 ext2 ext3 payload) (.consumer frame rest) s

/-- Copy a payload into the staging area at a word offset (R283). Where it runs past the area's end the
spec states no result: the bytes inside the area are written, and every other byte of the area is a
free value (assumption log 9). -/
def stagePayload (offset : Word) (payload : Bytes) (s : State) : State :=
  if 4 * offset.toNat + payload.length ≤ pageLen then
    { s with staging := storeBytes s.staging (4 * offset.toNat) payload }
  else
    { s with
      staging := storeBytes (Vector.ofFn fun i => Config.freeByte (s.freeCount + i.val))
        (4 * offset.toNat) payload
      freeCount := s.freeCount + pageLen }

/-- Offset in the staging area of the bytes FINISH_WRITE copies: the last 16 of the page (assumption
log 10). -/
def finishOffset : Nat := 240

/-- "The final 16 bytes of payload" (R283, assumption log 10). -/
def finalBytes (payload : Bytes) : Bytes := payload.drop (payload.length - 16)

/-- Copy the final 16 bytes of the payload into the staging area, then program the page containing
`addr` with the staging area (R283). -/
def finishPage (addr : Word) (payload : Bytes) (s : State) : State :=
  let staging := storeBytes s.staging finishOffset (finalBytes payload)
  { s with
    staging := staging
    flash := Memory.writeBytes s.flash (pageBase addr) staging.toList }

/-- CONSUMER's fatal idle loop: the whole block stops (R281, 60_exceptions.md R302). -/
def consumerHalt (r : Reason) (s : State) : Result :=
  atDispatch s fun _ _ =>
    match r with
    | .malformedFrame => .next (halt .malformedFrame s)
    | .unknownOpcode => .next (halt .unknownOpcode s)
    | .handshakeStall => .refused .notConsumersTurn

/-- DEVICE_INFO: "No state change"; the reply informs the host (R283). -/
def execFrameDeviceInfo (ext1 ext2 ext3 : Word) (payload : Bytes) (s : State) : Result :=
  replyAck ext1 ext2 ext3 payload s

/-- SETUP_WRITE: the payload goes to the staging area at word offset `ext1` (R283). -/
def execFrameSetupWrite (ext1 ext2 ext3 : Word) (payload : Bytes) (s : State) : Result :=
  replyAck ext1 ext2 ext3 payload (stagePayload ext1 payload s)

/-- FINISH_WRITE: the page containing address `ext1` is programmed (R283). -/
def execFrameFinishWrite (ext1 ext2 ext3 : Word) (payload : Bytes) (s : State) : Result :=
  replyAck ext1 ext2 ext3 payload (finishPage ext1 payload s)

/-- HARDWARE_RESET: "No-op placeholder in this implementation"; it is still answered (R283). -/
def execFrameHardwareReset (ext1 ext2 ext3 : Word) (payload : Bytes) (s : State) : Result :=
  replyAck ext1 ext2 ext3 payload s

/-- ACK as a command frame is an opcode CONSUMER does not know: the fail-stop, no reply (R283, R302). -/
def execFrameAck (_ext1 _ext2 _ext3 : Word) (_payload : Bytes) (s : State) : Result :=
  consumerHalt .unknownOpcode s

end Sys2Proof.Machine
end

