-- ==== Sys2Proof/Machine/Crc.lean ====
section
/-! DEFINITION. The CRC unit (spec/40_crc32.md): the byte step, the feed, and the meanings of the five
CRC operations. -/

namespace Sys2Proof.Machine

/-- One of the eight shift steps of the byte step (R151). -/
def crcStep (a : Word) : Word :=
  if a.getLsbD 0 then (a >>> 1) ^^^ crcPoly else a >>> 1

/-- `k` shift steps. -/
def crcSteps : Nat → Word → Word
  | 0, a => a
  | k + 1, a => crcSteps k (crcStep a)

/-- `crc_byte`, the standard reflected bitwise recurrence (R151). -/
def crcByte (acc : Word) (b : Byte) : Word := crcSteps 8 (acc ^^^ b.zeroExtend 32)

/-- `crc_feed`, the fold of `crc_byte` over the bytes in order (R152). -/
def crcFeed : Word → Bytes → Word
  | acc, [] => acc
  | acc, b :: bs => crcFeed (crcByte acc b) bs

/-- The pseudo-operation `CRC32(s)`: seed, feed, complement (R158). -/
def crc32 (bytes : Bytes) : Word := ~~~ crcFeed crcSeedValue bytes

/-- CRC_SEED: `crc_acc <- 0xFFFFFFFF` (R153). -/
def execCrcSeed (s : State) : Result := .next { s with crcAcc := crcSeedValue }

/-- CRC_LOAD v: `crc_acc <- v` (R154). -/
def execCrcLoad (v : Word) (s : State) : Result := .next { s with crcAcc := v }

/-- CRC_FEED s: `crc_acc <- crc_feed(crc_acc, s)` (R155). -/
def execCrcFeed (bytes : Bytes) (s : State) : Result :=
  .next { s with crcAcc := crcFeed s.crcAcc bytes }

/-- CRC_RAW: returns the running accumulator (R156). -/
def execCrcRaw (s : State) : Result := .next (emit (.crcResult s.crcAcc) s)

/-- CRC_FINAL: returns the complement of the accumulator, which stays as it is (R157). -/
def execCrcFinal (s : State) : Result := .next (emit (.crcResult (~~~ s.crcAcc)) s)

end Sys2Proof.Machine
end

