-- ==== Sys2Proof/Machine/Receive.lean ====
section
/-! DEFINITION. The HIDF unit's reception, POLL step 3, and POLL's return (spec/43_hid_framer.md R240 to
R247, spec/41_usb_poll_control.md R180). -/

namespace Sys2Proof.Machine

/-- POLL returns (41_usb_poll_control.md R180, R181). -/
def pollReturn (serviced : Bool) (s : State) : State :=
  { emit (.pollReturn serviced) s with seq := .idle }

/-- The pops of DrainBank: the bank's bytes go to RXBUF at rising offsets from `rx_cnt` (R243). -/
def appendBank (b : Bank) (s : State) : State :=
  let pops := popBytes (s.ep1.bankCount b) (s.ep1.bankFifo b) s.freeCount
  { s with
    rxBuf := storeBytes s.rxBuf s.rxCnt pops.1
    rxCnt := s.rxCnt + s.ep1.bankCount b
    ep1 := s.ep1.setBankFifo b pops.2.1
    freeCount := pops.2.2 }

/-- DrainBank up to its hold point: the overflow test before any pop (R242), the pops, the delayed
clear of the bank's flag (R243, R244). -/
def drainBank (b : Bank) (rest : List Bank) (s : State) : Result :=
  if s.rxCnt + s.ep1.bankCount b > frameLen then .next (halt .malformedFrame s)
  else .next (goto (.rxClr b rest) (requestFlag (.ep1RxBank b) .clr (appendBank b s)))

/-- The banks still to be tested, each when its turn comes; then POLL returns true (R240). -/
def drainBanks : List Bank → State → Result
  | [], s => .next (pollReturn true s)
  | b :: rest, s => if s.ep1.bankFlag b then drainBank b rest s else drainBanks rest s

/-- DispatchFrame up to its hold point (R246). -/
def dispatchFrame (rest : List Bank) (s : State) : State :=
  goto (.dispatch s.rxBuf.toList rest) (emit (.dispatch s.rxBuf.toList) { s with rxCnt := 0 })

/-- DrainBank after the clear is seen: the 64-byte test, then the next bank (R243, R245). -/
def afterBankCleared (rest : List Bank) (s : State) : Result :=
  if s.rxCnt = frameLen then .next (dispatchFrame rest s) else drainBanks rest s

/-- POLL step 3 and what follows it; `serviced` is what steps 1 and 2 gave (41_usb_poll_control.md
R180). -/
def pollStep3 (serviced : Bool) (s : State) : Result :=
  if ep1Pending s then drainBanks (bankOrder s.cfg.rxBankOrder) s
  else .next (pollReturn serviced s)

end Sys2Proof.Machine
end

