-- ==== Sys2Proof/Machine/Control.lean ====
section
/-! DEFINITION. The UDE unit's control transfers: the data stage and the zero-length status reply
(spec/41_usb_poll_control.md R190 to R193). -/

namespace Sys2Proof.Machine

/-- The request rule returns, done, aborted or without reply: POLL has serviced a SETUP and goes on to
step 3 (R187, R191). -/
def requestDone (s : State) : Result := pollStep3 true s

/-- The body of SendControl's loop up to its hold point: the abort test before the chunk, the load, the
trigger (R190). -/
def sendChunk (t : Tx) (s : State) : Result :=
  if s.ep0.rxSetup then requestDone s
  else
    match nextChunk s.cfg t with
    | none => .fault .memReadRange
    | some chunk => andThen (loadAndTrigger .ep0 chunk s) fun s => .next (goto (.ctlTx t) s)

/-- `SendControl(src, n)` up to its first hold point (R190). -/
def sendControl (src : Src) (n : Nat) (s : State) : Result := sendChunk ⟨src, 0, n⟩ s

/-- SendControl at HP_CTL_TX, its condition true: the abort wins over the acknowledgment (R190). -/
def afterCtlTx (t : Tx) (s : State) : Result :=
  if s.ep0.rxSetup then requestDone s
  else .next (goto (.ctlAckClr t) (requestFlag .ep0TxAcked .clr s))

/-- SendControl at HP_CTL_ACKCLR, its condition true: the next chunk, or Done (R190). -/
def afterCtlAckClr (t : Tx) (s : State) : Result :=
  if t.advance.rem = 0 then requestDone s else sendChunk t.advance s

/-- `ZlpStatus()` up to its first hold point (R192). -/
def zlpStatus (after : AfterZlp) (s : State) : Result := .next (goto (.zlpTx after) (trigger .ep0 s))

/-- ZlpStatus at HP_ZLP_TX, its condition true (R192). -/
def afterZlpTx (after : AfterZlp) (s : State) : State :=
  goto (.zlpAckClr after) (requestFlag .ep0TxAcked .clr s)

/-- SET_ADDRESS after its status reply: program the address, move the link (42_usb_requests.md R216). -/
def programAddress (addr : BitVec 7) (s : State) : State :=
  { s with devAddr := addr, link := if addr = 0 then .default else .addressed }

/-- What the request still does after its status reply. -/
def finishRequest : AfterZlp → State → State
  | .nothing, s => s
  | .setAddress a, s => programAddress a s

/-- ZlpStatus at HP_ZLP_ACKCLR, its condition true (R192). -/
def afterZlpAckClr (after : AfterZlp) (s : State) : Result := requestDone (finishRequest after s)

end Sys2Proof.Machine
end

