-- ==== Sys2Proof/Machine/Poll.lean ====
section
/-! DEFINITION. POLL, the bus-reset service and the Setup Request Handler up to its handshakes
(spec/41_usb_poll_control.md R180 to R186). -/

namespace Sys2Proof.Machine

/-- BusResetService: one step, no hold point (R182). -/
def busResetService (s : State) : State :=
  { s with
    busResetPending := false
    ep0 := { s.ep0.cleared with enabled := true, eptype := .control }
    ep1 := s.ep1.cleared
    ep2 := s.ep2.cleared
    fillNext := .b0
    curCfg := 0
    devAddr := 0
    link := .default }

/-- Read the SETUP packet from the EP0 FIFO into the latch (R184). -/
def latchSetup (s : State) : State :=
  let pops := popBytes setupLen s.ep0.rxFifo0 s.freeCount
  match parseSetup pops.1 with
  | some p => { s with setup := p, ep0 := { s.ep0 with rxFifo0 := pops.2.1 }, freeCount := pops.2.2 }
  | none => s

/-- SetupConsumedHandshake up to its hold point (R186). -/
def consumeSetup (s : State) : State := goto .setupClr (requestFlag .ep0RxSetup .clr s)

/-- SetupRequestHandler up to its first hold point: the direction handshake comes first, and only when
the direction bit is set (R184, R185). -/
def setupRequestHandler (s : State) : State :=
  let s := latchSetup s
  if directionIn s.setup.bmRequestType then goto .dir (requestFlag .ep0Dir .set s)
  else consumeSetup s

/-- POLL's steps 2 and 3, after step 1 gave `serviced` (R180). -/
def pollStep2 (serviced : Bool) (s : State) : Result :=
  if s.ep0.rxSetup then .next (setupRequestHandler s) else pollStep3 serviced s

/-- POLL: the three tests in priority order, each when its turn comes; only LOOP invokes it, when Idle
(R180, 44_environment.md R284). -/
def execPoll (s : State) : Result :=
  match s.seq with
  | .idle =>
    if s.busResetPending then pollStep2 true (busResetService s) else pollStep2 false s
  | _ => .refused .engineBusy

end Sys2Proof.Machine
end

