-- ==== Sys2Proof/Machine/Requests.lean ====
section
/-! DEFINITION. The standard requests, one meaning per SETUP row (spec/42_usb_requests.md R210 to R226).
Each is the request rule, run by the ENGINE inside the Setup Request Handler after both handshakes, up
to the POLL's next hold point or its return. -/

namespace Sys2Proof.Machine

/-! ## GET_DESCRIPTOR -/

/-- GET_DESCRIPTOR Device: the index and `wIndex` are ignored (R211). -/
def execGetDescriptorDevice (_rt _index : Byte) (_wIndex wLength : Half) (s : State) : Result :=
  sendControl .romDevice (replyLen s.cfg.rom.device.length wLength) s

/-- GET_DESCRIPTOR Configuration: the whole configuration set, whatever the index (R212). -/
def execGetDescriptorConfiguration (_rt _index : Byte) (_wIndex wLength : Half) (s : State) :
    Result :=
  sendControl .romConfig (replyLen s.cfg.rom.config.length wLength) s

/-- GET_DESCRIPTOR String: the length is the string's first byte; an index at or beyond the table gets
no reply (R213). -/
def execGetDescriptorString (_rt index : Byte) (_wIndex wLength : Half) (s : State) : Result :=
  match s.cfg.rom.strings[index.toNat]? with
  | none => requestDone s
  | some [] => .fault .memReadRange
  | some (b :: _) => sendControl (.romString index.toNat) (replyLen b.toNat wLength) s

/-- GET_DESCRIPTOR HID-Report (R215). -/
def execGetDescriptorHidReport (_rt _index : Byte) (_wIndex wLength : Half) (s : State) : Result :=
  sendControl .romHidReport (replyLen s.cfg.rom.hidReport.length wLength) s

/-- GET_DESCRIPTOR with an unknown type: no reply (R214). -/
def execGetDescriptorUnknownType (_rt _type _index : Byte) (_wIndex _wLength : Half) (s : State) :
    Result :=
  requestDone s

/-! ## Status and interface -/

/-- The reply of a qualifying GET_STATUS: a two-byte zero status word, whole whatever `wLength` is
(R219). -/
def sendZeroStatus (s : State) : Result := sendControl (.bytes [0, 0]) 2 s

/-- GET_STATUS, IN, device (R219). -/
def execGetStatusDevice (_kind : BitVec 2) (_wValue _wIndex _wLength : Half) (s : State) : Result :=
  sendZeroStatus s

/-- GET_STATUS, IN, interface (R219). -/
def execGetStatusInterface (_kind : BitVec 2) (_wValue _wIndex _wLength : Half) (s : State) :
    Result :=
  sendZeroStatus s

/-- GET_STATUS, IN, endpoint (R219). -/
def execGetStatusEndpoint (_kind : BitVec 2) (_wValue _wIndex _wLength : Half) (s : State) :
    Result :=
  sendZeroStatus s

/-- GET_STATUS that does not qualify: no reply (R219). -/
def execGetStatusOther (_rt : Byte) (_wValue _wIndex _wLength : Half) (s : State) : Result :=
  requestDone s

/-- GET_INTERFACE: a one-byte zero (R220). -/
def execGetInterface (_rt : Byte) (_wValue _wIndex _wLength : Half) (s : State) : Result :=
  sendControl (.bytes [0]) 1 s

/-- SET_INTERFACE: a zero-length status reply only (R221). -/
def execSetInterface (_rt : Byte) (_wValue _wIndex _wLength : Half) (s : State) : Result :=
  zlpStatus .nothing s

/-! ## Address and configuration -/

/-- SET_ADDRESS: the status reply first, then the address (R216); the reserved bits are ignored. -/
def execSetAddress (_rt : Byte) (addr : BitVec 7) (_high : BitVec 9) (_wIndex _wLength : Half)
    (s : State) : Result :=
  zlpStatus (.setAddress addr) s

/-- GET_CONFIGURATION: the one-byte current configuration value (R217). -/
def execGetConfiguration (_rt : Byte) (_wValue _wIndex _wLength : Half) (s : State) : Result :=
  sendControl (.bytes [s.curCfg]) 1 s

/-- The state that SET_CONFIGURATION writes before its status reply (R218). -/
def applyConfiguration (v : Byte) (s : State) : State :=
  if v = 0 then
    { s with
      curCfg := v, link := .addressed
      ep1 := { s.ep1 with enabled := false }
      ep2 := { s.ep2 with enabled := false } }
  else
    { s with
      curCfg := v, link := .configured
      ep1 := { s.ep1 with enabled := true, eptype := .interruptOut }
      ep2 := { s.ep2 with enabled := true, eptype := .interruptIn } }

/-- SET_CONFIGURATION: the state first, the status reply last (R218); `wValue[15:8]` is ignored. -/
def execSetConfiguration (_rt value _high : Byte) (_wIndex _wLength : Half) (s : State) : Result :=
  zlpStatus .nothing (applyConfiguration value s)

/-! ## Accepted silently, and unknown -/

/-- CLEAR_FEATURE: no effect of its own, no reply (R222). -/
def execClearFeature (_rt : Byte) (_wValue _wIndex _wLength : Half) (s : State) : Result :=
  requestDone s

/-- SET_FEATURE: no effect of its own, no reply (R223). -/
def execSetFeature (_rt : Byte) (_wValue _wIndex _wLength : Half) (s : State) : Result :=
  requestDone s

/-- SYNC_FRAME: no effect of its own, no data stage (R224). -/
def execSyncFrame (_rt : Byte) (_wValue _wIndex _wLength : Half) (s : State) : Result :=
  requestDone s

/-- SET_DESCRIPTOR: no effect of its own; the ROM is not written (R225). -/
def execSetDescriptor (_rt : Byte) (_wValue _wIndex _wLength : Half) (s : State) : Result :=
  requestDone s

/-- An unknown request: nothing (R226). -/
def execUnknownRequest (_rt _bRequest : Byte) (_wValue _wIndex _wLength : Half) (s : State) :
    Result :=
  requestDone s

end Sys2Proof.Machine
end

