-- ==== Sys2Proof/Machine/Dispatch.lean ====
section
/-! DEFINITION. One arm per constructor of Instr. -/

namespace Sys2Proof.Machine

def exec (i : Instr) (s : State) : Host.Outcome State Fault Refusal :=
  match i with
  | .crcSeed => Sys2Proof.Machine.execCrcSeed s
  | .crcLoad v => Sys2Proof.Machine.execCrcLoad v s
  | .crcFeed bytes => Sys2Proof.Machine.execCrcFeed bytes s
  | .crcRaw => Sys2Proof.Machine.execCrcRaw s
  | .crcFinal => Sys2Proof.Machine.execCrcFinal s
  | .poll => Sys2Proof.Machine.execPoll s
  | .sendFrame bytes => Sys2Proof.Machine.execSendFrame bytes s
  | .getDescriptorDevice rt x wi wl => Sys2Proof.Machine.execGetDescriptorDevice rt x wi wl s
  | .getDescriptorConfiguration rt x wi wl => Sys2Proof.Machine.execGetDescriptorConfiguration rt x wi wl s
  | .getDescriptorString rt x wi wl => Sys2Proof.Machine.execGetDescriptorString rt x wi wl s
  | .getDescriptorHidReport rt x wi wl => Sys2Proof.Machine.execGetDescriptorHidReport rt x wi wl s
  | .getDescriptorUnknownType rt t x wi wl => Sys2Proof.Machine.execGetDescriptorUnknownType rt t x wi wl s
  | .getStatusDevice k wv wi wl => Sys2Proof.Machine.execGetStatusDevice k wv wi wl s
  | .getStatusInterface k wv wi wl => Sys2Proof.Machine.execGetStatusInterface k wv wi wl s
  | .getStatusEndpoint k wv wi wl => Sys2Proof.Machine.execGetStatusEndpoint k wv wi wl s
  | .getStatusOther rt wv wi wl => Sys2Proof.Machine.execGetStatusOther rt wv wi wl s
  | .clearFeature rt wv wi wl => Sys2Proof.Machine.execClearFeature rt wv wi wl s
  | .setFeature rt wv wi wl => Sys2Proof.Machine.execSetFeature rt wv wi wl s
  | .setAddress rt a h wi wl => Sys2Proof.Machine.execSetAddress rt a h wi wl s
  | .setDescriptor rt wv wi wl => Sys2Proof.Machine.execSetDescriptor rt wv wi wl s
  | .getConfiguration rt wv wi wl => Sys2Proof.Machine.execGetConfiguration rt wv wi wl s
  | .setConfiguration rt v h wi wl => Sys2Proof.Machine.execSetConfiguration rt v h wi wl s
  | .getInterface rt wv wi wl => Sys2Proof.Machine.execGetInterface rt wv wi wl s
  | .setInterface rt wv wi wl => Sys2Proof.Machine.execSetInterface rt wv wi wl s
  | .syncFrame rt wv wi wl => Sys2Proof.Machine.execSyncFrame rt wv wi wl s
  | .unknownRequest rt b wv wi wl => Sys2Proof.Machine.execUnknownRequest rt b wv wi wl s
  | .frameDeviceInfo e1 e2 e3 p => Sys2Proof.Machine.execFrameDeviceInfo e1 e2 e3 p s
  | .frameSetupWrite e1 e2 e3 p => Sys2Proof.Machine.execFrameSetupWrite e1 e2 e3 p s
  | .frameFinishWrite e1 e2 e3 p => Sys2Proof.Machine.execFrameFinishWrite e1 e2 e3 p s
  | .frameHardwareReset e1 e2 e3 p => Sys2Proof.Machine.execFrameHardwareReset e1 e2 e3 p s
  | .frameAck e1 e2 e3 p => Sys2Proof.Machine.execFrameAck e1 e2 e3 p s

end Sys2Proof.Machine
end

