-- ==== Sys2Proof/Machine/Engine.lean ====
section
/-! DEFINITION. The ENGINE's step: the hold points, their conditions, and how the ENGINE goes on when a
condition is true (spec/10_state.md R51, spec/20_memory.md R96, spec/00_scope.md R12). The request that
the SETUP latch holds is fetched here. -/

namespace Sys2Proof.Machine

/-- The condition each hold point waits for (10_state.md R51). HP_DISPATCH waits for CONSUMER's answer,
which is a move of CONSUMER's. -/
def holdReady (h : Hold) (s : State) : Bool :=
  match h with
  | .dir => s.ep0.dir
  | .setupClr => !s.ep0.rxSetup
  | .ctlTx _ => s.ep0.rxSetup || s.ep0.txAcked
  | .ctlAckClr _ => !s.ep0.txAcked
  | .zlpTx _ => s.ep0.txAcked
  | .zlpAckClr _ => !s.ep0.txAcked
  | .rxClr b _ => !s.ep1.bankFlag b
  | .dispatch _ _ => false
  | .frmTx _ _ => s.ep2.txAcked
  | .frmAckClr _ _ => !s.ep2.txAcked

/-- The request in the SETUP latch: DispatchRequest's selection (41_usb_poll_control.md R187). -/
def latchedRequest (s : State) : Instr := decodeSetup s.cfg s.setup

/-- The ENGINE goes on from a hold point whose condition is true, to the next hold point, to Idle or to
Halted (00_scope.md R12). -/
def resume (h : Hold) (s : State) : Result :=
  match h with
  | .dir => .next (consumeSetup s)
  | .setupClr => exec (latchedRequest s) s
  | .ctlTx t => afterCtlTx t s
  | .ctlAckClr t => afterCtlAckClr t s
  | .zlpTx a => .next (afterZlpTx a s)
  | .zlpAckClr a => afterZlpAckClr a s
  | .rxClr _ rest => afterBankCleared rest s
  | .dispatch _ _ => .next s
  | .frmTx t c => .next (afterFrmTx t c s)
  | .frmAckClr t c => sendFrameLoop t.advance c s

/-- HP_DISPATCH is no place of a handshake stall (60_exceptions.md R303). -/
def stallable : Hold → Bool
  | .dispatch _ _ => false
  | _ => true

/-- A test of a hold's condition that finds it false: without a cap the ENGINE has no step; with
`SPIN_CAP = k` the k-th failed test ends in `halt HandshakeStall` (20_memory.md R96, 60_exceptions.md
R303; a cap of 0 ends at the first failed test, assumption log 3). -/
def failedTest (h : Hold) (s : State) : State :=
  match s.cfg.spinCap with
  | none => s
  | some k =>
    if stallable h then
      if s.spin + 1 ≥ k then halt .handshakeStall s else { s with spin := s.spin + 1 }
    else s

/-- The ENGINE's turn. Idle and Halted have no step (R50, R52): the state stays. -/
def engineStep (s : State) : Result :=
  match s.seq with
  | .idle => .next s
  | .halted _ => .next s
  | .hold h => if holdReady h s then resume h s else .next (failedTest h s)

end Sys2Proof.Machine
end

