-- ==== Sys2Proof/Machine/Environment.lean ====
section
/-! DEFINITION. The moves of the agents outside the block (spec/44_environment.md): BUS, CONSUMER,
WATCHDOG, and the invocation of an operation by name. A move whose precondition is false does not exist
and is refused. -/

namespace Sys2Proof.Machine

/-! ## BUS -/

/-- `BusReset`: only flags the reset; it may happen at any time (R270). -/
def busReset (s : State) : State := { s with busResetPending := true }

/-- EP0 after a SETUP arrives: the packet received (R271) and the transmit side withdrawn (R273), as
one atomic move. -/
def Endpoint.setupArrives (e : Endpoint) (p : Bytes) : Endpoint :=
  { e with
    rxFifo0 := p, rxCount0 := setupLen, rxSetup := true
    txFifo := [], txTrigger := false, txAcked := false, txAckedReq := .none
    dir := false, dirReq := .none }

/-- When `BusSetup(p)` is possible (R271). -/
def busSetupAllowed (p : Bytes) (s : State) : Bool :=
  p.length == setupLen && s.ep0.enabled && !s.ep0.rxSetup && s.ep0.rxSetupReq == .none

/-- `BusSetup(p)` (R271, R273). -/
def busSetup (p : Bytes) (s : State) : Result :=
  if busSetupAllowed p s then .next { s with ep0 := s.ep0.setupArrives p }
  else .refused .noSuchBusMove

/-- BUS may fill bank `b` under its policy (R272). -/
def bankAllowed (b : Bank) (s : State) : Bool :=
  match s.cfg.bankFillPolicy with
  | .any => true
  | .alternate => b == s.fillNext

/-- The bank BUS fills next, after it filled one (R272). -/
def nextFill (s : State) : Bank :=
  match s.cfg.bankFillPolicy with
  | .any => s.fillNext
  | .alternate => s.fillNext.other

/-- When `BusOut(b, d)` is possible (R272). -/
def busOutAllowed (b : Bank) (d : Bytes) (s : State) : Bool :=
  decide (d.length ≤ fifoDepth) && s.ep1.enabled && !s.ep1.bankFlag b
    && s.ep1.bankReq b == .none && bankAllowed b s

/-- `BusOut(b, d)` (R272). -/
def busOut (b : Bank) (d : Bytes) (s : State) : Result :=
  if busOutAllowed b d s then .next { s with ep1 := s.ep1.fillBank b d, fillNext := nextFill s }
  else .refused .noSuchBusMove

/-- When `BusInAck(n)` is possible (R274). -/
def busInAckAllowed (n : TxEp) (s : State) : Bool :=
  (txEndpoint n s).enabled && (txEndpoint n s).txTrigger && !(txEndpoint n s).txAcked
    && (txEndpoint n s).txAckedReq == .none

/-- The CSR after the host took the packet (R274). -/
def Endpoint.taken (e : Endpoint) : Endpoint :=
  { e with txFifo := [], txTrigger := false, txAcked := true }

/-- `BusInAck(n)`: the host takes the queued packet and acknowledges it (R274). -/
def busInAck (n : TxEp) (s : State) : Result :=
  if busInAckAllowed n s then
    .next (setTxEndpoint n (txEndpoint n s).taken (emit (.toHost n (txEndpoint n s).txFifo) s))
  else .refused .noSuchBusMove

/-- `Reflect(f)` (R275). -/
def reflect (f : Flag) (s : State) : Result :=
  match flagReq f s with
  | .none => .refused .noSuchBusMove
  | .set => .next (showFlag f true s)
  | .clr => .next (showFlag f false s)

/-! ## CONSUMER -/

/-- `ConsumerReturn`: the ENGINE continues after HP_DISPATCH with the next bank (R282, 43_hid_framer.md
R247). -/
def consumerReturn (s : State) : Result := atDispatch s fun _ rest => drainBanks rest s

/-- CONSUMER handles the frame handed to it (R280, R283): a frame of wrong length or with an opcode it
has no case for is its fatal idle loop (60_exceptions.md R301, R302). -/
def serveFrame (s : State) : Result :=
  atDispatch s fun frame _ =>
    match decode s.cfg .frame frame with
    | .ok i => exec i s
    | .error (.unknownFrameOpcode _) => consumerHalt .unknownOpcode s
    | .error _ => consumerHalt .malformedFrame s

/-! ## Invocations, and all moves -/

/-- LOOP, CONSUMER or CRCCLIENT invokes an operation by name (30_encoding.md R127). -/
def invoke (call : Bytes) (s : State) : Result :=
  match decode s.cfg .opsel call with
  | .ok i => exec i s
  | .error e => .refused (.badCall e)

/-- One move of one agent. -/
def move (m : Move) (s : State) : Result :=
  match m with
  | .engine => engineStep s
  | .invoke call => invoke call s
  | .serveFrame => serveFrame s
  | .consumerReturn => consumerReturn s
  | .consumerHalt r => consumerHalt r s
  | .busReset => .next (busReset s)
  | .busSetup p => busSetup p s
  | .busOut b d => busOut b d s
  | .busInAck n => busInAck n s
  | .reflect f => reflect f s
  | .restart => .next (restart s)

/-- The next move of the script, or the ENGINE's turn when the script is empty (assumption log 1). -/
def nextMove (s : State) : Result :=
  match s.script with
  | [] => engineStep s
  | m :: rest => move m { s with script := rest }

/-! ## Placing an instruction where the next step fetches it -/

/-- An invocation of the operation becomes the next move. -/
def placeCall (call : Bytes) (s : State) : State := { s with script := .invoke call :: s.script }

/-- The SETUP latch holds the packet, both handshakes are done, and the ENGINE has the next move. -/
def placeSetup (p : Setup) (s : State) : State :=
  { s with
    setup := p
    seq := .hold .setupClr
    ep0 := { s.ep0 with rxSetup := false }
    script := .engine :: s.script }

/-- The frame has been handed to CONSUMER, and CONSUMER has the next move. -/
def placeFrame (frame : Bytes) (s : State) : State :=
  { s with seq := .hold (.dispatch frame []), script := .serveFrame :: s.script }

/-- The word of a table row, placed where the next step fetches it. -/
def placeWord (nbits w : Nat) (s : State) : State :=
  match tableFormat nbits w with
  | .opsel => placeCall (tableInstrBytes nbits w) s
  | .setup =>
    match parseSetup (tableInstrBytes nbits w) with
    | some p => placeSetup p s
    | none => s
  | .frame => placeFrame (tableInstrBytes nbits w) s

end Sys2Proof.Machine
end

