-- ==== Sys2Proof/Machine/Step.lean ====
section
/-! DEFINITION. One step of the machine: one move of one agent (spec/00_scope.md R7, R12). -/

namespace Sys2Proof.Machine

/-- One step. A configuration the spec refuses is refused (20_memory.md R72, 44_environment.md R276);
otherwise the next move of the script is made, or the ENGINE's when there is none. -/
def step (s : State) : Host.Outcome State Fault Refusal :=
  if s.cfg.wf then nextMove s else .refused .badConfiguration

/-- The instruction of a word of spec/opcode_table.json, placed where the next step fetches it: a call
as the script's next move, a SETUP packet in the latch with the handshakes done and the ENGINE to move,
a frame at HP_DISPATCH with CONSUMER to move (assumption log 1). -/
def State.withFetchWord (s : State) (nbits w : Nat) : State := placeWord nbits w s

end Sys2Proof.Machine
end

