-- ==== Sys2Proof/Safety.lean ====
section
/-! DEFINITION. What counts as a good state and a safe run, in the terms the claims use: the invariant of
the machine, runs of moves, the packets of a transfer, the co-operative BUS, the moves BUS has. -/

namespace Sys2Proof.Machine

/-! ## Runs -/

/-- The result of a list of moves made one after another (spec/30_encoding.md R131). -/
def runMoves : List Move → State → Result
  | [], s => .next s
  | m :: ms, s => andThen (move m s) (runMoves ms)

/-- The result is a next state. -/
def completes (r : Result) : Prop := ∃ t, r = .next t

/-! ## Packets of a transfer (spec/20_memory.md R86) -/

/-- A byte string cut into packets of eight bytes and a shorter last one, by fuel. -/
def packetsFuel : Nat → Bytes → List Bytes
  | 0, _ => []
  | n + 1, s => if s = [] then [] else s.take fifoDepth :: packetsFuel n (s.drop fifoDepth)

/-- The packets of a byte string: none of the empty one. SendFrame sends these. -/
def packets (s : Bytes) : List Bytes := packetsFuel s.length s

/-- The packets of a control data stage: one zero-length packet when there is nothing to send. -/
def dataStagePackets (s : Bytes) : List Bytes := if s = [] then [[]] else packets s

/-- One transmitted packet with a BUS that answers: the host takes it, the ENGINE moves, BUS reflects
the clear, the ENGINE moves. -/
def ackRound (n : TxEp) : List Move := [.busInAck n, .engine, .reflect (ackFlag n), .engine]

/-- `k` such rounds. -/
def ackRounds (n : TxEp) : Nat → List Move
  | 0 => []
  | k + 1 => ackRound n ++ ackRounds n k

/-! ## The transmit side of an endpoint -/

/-- Nothing queued, nothing acknowledged, no clear outstanding. -/
def Endpoint.txQuiet (e : Endpoint) : Prop :=
  e.txFifo = [] ∧ e.txTrigger = false ∧ e.txAcked = false ∧ e.txAckedReq = .none

/-- A packet is queued, or it was just taken: what an acknowledgment wait sees. -/
def Endpoint.txWaiting (e : Endpoint) : Prop :=
  e.txAckedReq = .none ∧
    ((e.txTrigger = true ∧ e.txAcked = false)
      ∨ (e.txFifo = [] ∧ e.txTrigger = false ∧ e.txAcked = true))

/-- The packet was taken and the clear of `tx_acked` is outstanding or shown. -/
def Endpoint.txClearing (e : Endpoint) : Prop :=
  e.txFifo = [] ∧ e.txTrigger = false ∧
    ((e.txAcked = true ∧ e.txAckedReq = .clr) ∨ (e.txAcked = false ∧ e.txAckedReq = .none))

/-! ## The invariant -/

/-- The unsent part of a transfer lies inside its source (spec/20_memory.md R71). -/
def txInRange (c : Config) (t : Tx) : Prop := t.off + t.rem ≤ (srcBytes c t.src).length

/-- A frame on its way to or from CONSUMER has 64 bytes (spec/43_hid_framer.md R245). -/
def callerOk : Caller → Prop
  | .loop => True
  | .consumer frame _ => frame.length = frameLen

/-- EP0's transmit side at each position of the ENGINE. -/
def ep0TxOk (s : State) : Prop :=
  match s.seq with
  | .halted _ => True
  | .hold (.ctlTx _) => if s.ep0.rxSetup = true then s.ep0.txQuiet else s.ep0.txWaiting
  | .hold (.ctlAckClr _) => s.ep0.txClearing
  | .hold (.zlpTx _) =>
    s.ep0.txFifo = [] ∧ s.ep0.txAckedReq = .none
      ∧ (s.ep0.txAcked = true → s.ep0.txTrigger = false)
  | .hold (.zlpAckClr _) => s.ep0.txClearing
  | _ => s.ep0.txQuiet

/-- EP2's transmit side at each position of the ENGINE. -/
def ep2TxOk (s : State) : Prop :=
  match s.seq with
  | .halted _ => True
  | .hold (.frmTx _ _) => s.ep2.txWaiting
  | .hold (.frmAckClr _ _) => s.ep2.txClearing
  | _ => s.ep2.txQuiet

/-- The locals live at each position of the ENGINE. -/
def localsOk (s : State) : Prop :=
  match s.seq with
  | .hold (.ctlTx t) => txInRange s.cfg t
  | .hold (.ctlAckClr t) => txInRange s.cfg t
  | .hold (.frmTx t c) => txInRange s.cfg t ∧ callerOk c
  | .hold (.frmAckClr t c) => txInRange s.cfg t ∧ callerOk c
  | .hold (.dispatch frame _) => frame.length = frameLen
  | _ => True

/-- The ENGINE waits for a bank's clear, or is fail-stopped. -/
def waitsForBank (b : Bank) : Seq → Prop
  | .hold (.rxClr b' _) => b' = b
  | .halted _ => True
  | _ => False

/-- The ENGINE waits for the clear of the SETUP flag, or is fail-stopped. -/
def waitsForSetupClear : Seq → Prop
  | .hold .setupClr => True
  | .halted _ => True
  | _ => False

/-- The SETUP packet may have left the EP0 FIFO while its flag is still set. -/
def setupTaken : Seq → Prop
  | .hold .dir => True
  | .halted _ => True
  | _ => False

/-- The ENGINE is inside the Setup Request Handler. -/
def servesSetup : Seq → Prop
  | .hold .dir => True
  | .hold .setupClr => True
  | .hold (.ctlTx _) => True
  | .hold (.ctlAckClr _) => True
  | .hold (.zlpTx _) => True
  | .hold (.zlpAckClr _) => True
  | _ => False

/-- A receive bank of EP1: its count fits the FIFO, no set of its flag is ever requested, a clear is
outstanding only while the flag is set and the ENGINE waits for it, and a pending packet is whole
(spec/20_memory.md R88, spec/44_environment.md R272). -/
structure BankOk (b : Bank) (s : State) : Prop where
  count_le : s.ep1.bankCount b ≤ fifoDepth
  req_ne_set : s.ep1.bankReq b ≠ .set
  clr_flag : s.ep1.bankReq b = .clr → s.ep1.bankFlag b = true
  clr_seq : s.ep1.bankReq b = .clr → waitsForBank b s.seq
  whole : s.ep1.bankFlag b = true → s.ep1.bankReq b = .none →
    (s.ep1.bankFifo b).length = s.ep1.bankCount b

/-- The ENGINE is past the direction handshake of the request it serves. -/
def pastDirection : Seq → Prop
  | .hold .setupClr => True
  | .hold (.ctlTx _) => True
  | .hold (.ctlAckClr _) => True
  | .hold (.zlpTx _) => True
  | .hold (.zlpAckClr _) => True
  | _ => False

/-- The SETUP side of EP0, in the same terms; the direction is 0 when a SETUP is taken up
(spec/41_usb_poll_control.md R185) and set before the data (spec/70_reset_and_hazards.md R350). -/
structure SetupOk (s : State) : Prop where
  req_ne_set : s.ep0.rxSetupReq ≠ .set
  clr_flag : s.ep0.rxSetupReq = .clr → s.ep0.rxSetup = true
  clr_seq : s.ep0.rxSetupReq = .clr → waitsForSetupClear s.seq
  whole : s.ep0.rxSetup = true → s.ep0.rxSetupReq = .none → ¬ setupTaken s.seq →
    s.ep0.rxFifo0.length = 8
  dir_flag : s.seq = .hold .dir → s.ep0.rxSetup = true
  flag_enabled : s.ep0.rxSetup = true → s.ep0.enabled = true
  seq_enabled : servesSetup s.seq → s.ep0.enabled = true
  dirReq_ne_clr : s.ep0.dirReq ≠ .clr
  dir_fresh : s.ep0.rxSetup = true → s.ep0.rxSetupReq = .none → ¬ setupTaken s.seq →
    s.ep0.dir = false ∧ s.ep0.dirReq = .none
  dir_first : pastDirection s.seq → directionIn s.setup.bmRequestType = true →
    s.ep0.rxSetup = false ∨ s.ep0.rxSetupReq = .clr → s.ep0.dir = true

/-- The link-level registers agree with one another (spec/10_state.md R27, spec/60_exceptions.md R320,
R321). -/
structure LinkOk (s : State) : Prop where
  detached : s.link = .detached ↔ s.ep0.enabled = false
  unaddressed : s.link = .detached ∨ s.link = .default → s.devAddr = 0
  unconfigured : s.link = .detached → s.curCfg = 0
  configured : s.link = .configured → s.curCfg ≠ 0
  enables : s.ep1.enabled = true ↔ s.curCfg ≠ 0
  both : s.ep2.enabled = s.ep1.enabled
  type0 : s.ep0.enabled = true → s.ep0.eptype = .control
  type1 : s.ep1.enabled = true → s.ep1.eptype = .interruptOut
  type2 : s.ep2.enabled = true → s.ep2.eptype = .interruptIn

/-- A good state: the invariant every step keeps. -/
structure Inv (s : State) : Prop where
  cfg : s.cfg.wf = true
  flash : Memory.wf s.flash
  rxCnt_le : s.rxCnt ≤ frameLen
  rxCnt_full : s.rxCnt = frameLen →
    (∃ b rest, s.seq = .hold (.rxClr b rest)) ∨ ∃ r, s.seq = .halted r
  ep0Fifo : s.ep0.txFifo.length ≤ fifoDepth
  ep2Fifo : s.ep2.txFifo.length ≤ fifoDepth
  link : LinkOk s
  setup : SetupOk s
  bank0 : BankOk .b0 s
  bank1 : BankOk .b1 s
  ep0Tx : ep0TxOk s
  ep2Tx : ep2TxOk s
  locals : localsOk s

/-! ## What a restart gives (spec/10_state.md R60, spec/70_reset_and_hazards.md R341) -/

/-- Every element that R341 gives a value has it; `crcAcc`, `setup`, `rxBuf` and the types are not
mentioned. -/
structure PowerOn (s : State) : Prop where
  seq : s.seq = .idle
  link : s.link = .detached
  curCfg : s.curCfg = 0
  devAddr : s.devAddr = 0
  busResetPending : s.busResetPending = false
  ep0 : s.ep0 = { Endpoint.reset with eptype := s.ep0.eptype }
  ep1 : s.ep1 = { Endpoint.reset with eptype := s.ep1.eptype }
  ep2 : s.ep2 = { Endpoint.reset with eptype := s.ep2.eptype }
  rxCnt : s.rxCnt = 0
  fillNext : s.fillNext = .b0

/-! ## Serving a request, sending and receiving -/

/-- EP0 can answer: it is enabled, no newer SETUP has arrived, and nothing is queued. This is the state
of EP0 when a request rule starts (spec/42_usb_requests.md). -/
def canReply (s : State) : Prop :=
  s.ep0.enabled = true ∧ s.ep0.rxSetup = false ∧ s.ep0.txQuiet

/-- EP2 can send: it is enabled and nothing is queued. -/
def canSendFrame (s : State) : Prop := s.ep2.enabled = true ∧ s.ep2.txQuiet

/-- A chunk is queued on EP0 and the ENGINE waits at a hold point. -/
def queuedOnEp0 (chunk : Bytes) (h : Hold) (s : State) : State :=
  { s with
    ep0 := { s.ep0 with txFifo := chunk, txTrigger := true }
    seq := .hold h
    spin := 0 }

/-- A chunk is queued on EP2 and the ENGINE waits at a hold point. -/
def queuedOnEp2 (chunk : Bytes) (h : Hold) (s : State) : State :=
  { s with
    ep2 := { s.ep2 with txFifo := chunk, txTrigger := true }
    seq := .hold h
    spin := 0 }

/-- The host has received these packets from an endpoint; nothing else has changed but the model's own
iteration counter. -/
def delivered (n : TxEp) (ps : List Bytes) (s : State) : State :=
  { s with spin := 0, history := s.history ++ ps.map (.toHost n) }

/-- The POLL has returned true and nothing else has changed. -/
def polledTrue (s : State) : State :=
  { s with seq := .idle, history := s.history ++ [.pollReturn true] }

/-- One EP1 packet with a BUS and a LOOP that go on: the packet arrives, LOOP invokes POLL, BUS reflects
the clear, the ENGINE moves. -/
def receiveRound (b : Bank) (d : Bytes) : List Move :=
  [.busOut b d, .invoke [0x10], .reflect (.ep1RxBank b), .engine]

/-- Such rounds for a list of packets, each in the bank given. -/
def receiveRounds : List (Bank × Bytes) → List Move
  | [] => []
  | (b, d) :: ps => receiveRound b d ++ receiveRounds ps

/-- The bytes of a list of packets in order. -/
def packetBytes (ps : List (Bank × Bytes)) : Bytes := (ps.map (·.2)).flatten

/-- EP1 can receive and the ENGINE is idle with nothing pending. -/
def canReceive (s : State) : Prop :=
  s.seq = .idle ∧ s.busResetPending = false ∧ s.ep0.rxSetup = false ∧ s.ep1.enabled = true
    ∧ s.ep1.rxBank0 = false ∧ s.ep1.rxBank1 = false
    ∧ s.ep1.rxBank0Req = .none ∧ s.ep1.rxBank1Req = .none

/-! ## Who makes the next step -/

/-- Apply a function to the next state, if there is one. -/
def mapNext (f : State → State) (r : Result) : Result := andThen r fun s => .next (f s)

/-- The moves of BUS (spec/44_environment.md R270 to R275). -/
def isBusMove : Move → Bool
  | .busReset => true
  | .busSetup _ => true
  | .busOut _ _ => true
  | .busInAck _ => true
  | .reflect _ => true
  | _ => false

/-- The moves of BUS that can make a hold's condition true (spec/10_state.md R51, last column). -/
def lifts : Hold → Move → Prop
  | .dir, m => m = .reflect .ep0Dir
  | .setupClr, m => m = .reflect .ep0RxSetup
  | .ctlTx _, m => m = .busInAck .ep0 ∨ ∃ p, m = .busSetup p
  | .ctlAckClr _, m => m = .reflect .ep0TxAcked ∨ ∃ p, m = .busSetup p
  | .zlpTx _, m => m = .busInAck .ep0
  | .zlpAckClr _, m => m = .reflect .ep0TxAcked ∨ ∃ p, m = .busSetup p
  | .rxClr b _, m => m = .reflect (.ep1RxBank b)
  | .dispatch _ _, _ => False
  | .frmTx _ _, m => m = .busInAck .ep2
  | .frmAckClr _ _, m => m = .reflect .ep2TxAcked

/-- The move of the next step. -/
def nextMoveOf (s : State) : Move := s.script.head?.getD .engine

/-- The next step is WATCHDOG's restart. -/
def restartNext (s : State) : Prop := nextMoveOf s = .restart

/-- The next step is an invocation whose `op_sel` is one of the CRC unit's (spec/30_encoding.md R127). -/
def crcCallNext (s : State) : Prop :=
  ∃ op operands, nextMoveOf s = .invoke (op :: operands) ∧ op.toNat ≤ 4

/-- The next step is a POLL that services a bus reset (spec/41_usb_poll_control.md R182). -/
def busResetServiceNext (s : State) : Prop :=
  nextMoveOf s = .invoke [0x10] ∧ s.seq = .idle ∧ s.busResetPending = true

/-- The next step is the ENGINE's, it runs the request in the latch, and that is SET_CONFIGURATION of
`v` (spec/42_usb_requests.md R218). -/
def setConfigurationNext (v : Byte) (s : State) : Prop :=
  nextMoveOf s = .engine ∧ s.seq = .hold .setupClr ∧ s.ep0.rxSetup = false
    ∧ ∃ rt high wIndex wLength, latchedRequest s = .setConfiguration rt v high wIndex wLength

/-- The next step is the ENGINE's, and it completes the status reply of SET_ADDRESS with address `a`
(spec/42_usb_requests.md R216). -/
def setAddressNext (a : BitVec 7) (s : State) : Prop :=
  nextMoveOf s = .engine ∧ s.seq = .hold (.zlpAckClr (.setAddress a)) ∧ s.ep0.txAcked = false

/-- The next step is CONSUMER's, and it serves a FINISH_WRITE frame (spec/44_environment.md R283). -/
def finishWriteNext (s : State) : Prop :=
  nextMoveOf s = .serveFrame ∧ ∃ frame rest e1 e2 e3 p, s.seq = .hold (.dispatch frame rest)
    ∧ decode s.cfg .frame frame = .ok (.frameFinishWrite e1 e2 e3 p)

/-! ## The causes of events (spec/00_scope.md R13) -/

/-- The hold points inside a POLL: all but SendFrame's two (spec/10_state.md R51). -/
def insidePoll : Hold → Prop
  | .frmTx _ _ => False
  | .frmAckClr _ _ => False
  | _ => True

/-- The next step is the start of a POLL (spec/41_usb_poll_control.md R180). -/
def pollNext (s : State) : Prop := nextMoveOf s = .invoke [0x10] ∧ s.seq = .idle

/-- The next step goes on with the POLL in progress: the ENGINE from a hold point whose condition is true,
or CONSUMER's return from the dispatch (spec/10_state.md R51). -/
def pollGoesOn (s : State) : Prop :=
  ∃ h, s.seq = .hold h ∧ insidePoll h
    ∧ ((nextMoveOf s = .engine ∧ holdReady h s = true)
      ∨ (nextMoveOf s = .consumerReturn ∧ ∃ frame rest, h = .dispatch frame rest))

/-- At least one of POLL's three tests is true (spec/41_usb_poll_control.md R180, R181). -/
def pollHasWork (s : State) : Bool := s.busResetPending || s.ep0.rxSetup || ep1Pending s

/-- The failing condition of each fail-stop: a packet that would carry the count past 64, or a frame of
wrong length (spec/60_exceptions.md R301); an opcode CONSUMER has no case for (R302); either of the two
as CONSUMER's own answer (spec/44_environment.md R281); a hold's capped test that fails (R303). -/
def failureOf (r : Reason) (s : State) : Prop :=
  match r with
  | .malformedFrame => ((pollNext s ∨ pollGoesOn s)
        ∧ ∃ b, s.ep1.bankFlag b = true ∧ frameLen < s.rxCnt + s.ep1.bankCount b)
      ∨ ∃ frame rest, s.seq = .hold (.dispatch frame rest)
        ∧ (nextMoveOf s = .consumerHalt .malformedFrame
          ∨ (nextMoveOf s = .serveFrame ∧ frame.length ≠ frameLen))
  | .unknownOpcode => ∃ frame rest, s.seq = .hold (.dispatch frame rest)
      ∧ (nextMoveOf s = .consumerHalt .unknownOpcode
        ∨ (nextMoveOf s = .serveFrame ∧ ∃ op ext1 ext2 ext3 payload, payload.length = 48
          ∧ frame = frameBytes op ext1 ext2 ext3 payload
          ∧ op ∉ [s.cfg.op.deviceInfo, s.cfg.op.setupWrite, s.cfg.op.finishWrite,
            s.cfg.op.hardwareReset]))
  | .handshakeStall => nextMoveOf s = .engine ∧ ∃ h k, s.seq = .hold h ∧ stallable h = true
      ∧ holdReady h s = false ∧ s.cfg.spinCap = some k ∧ k ≤ s.spin + 1

/-- What the spec names as the cause of an event that the step from `s` to `t` adds: DispatchFrame after
64 bytes (spec/43_hid_framer.md R245, R246), BusInAck of the queued packet (spec/44_environment.md
R274), the return of a POLL, true exactly when one of its tests was (spec/41_usb_poll_control.md R181), a
fail-stop for its failing condition (spec/60_exceptions.md R305), CRC_RAW or CRC_FINAL (spec/40_crc32.md
R156, R157). -/
def causeOf (e : Event) (s t : State) : Prop :=
  match e with
  | .dispatch frame => s.rxCnt = 64 ∧ frame = s.rxBuf.toList ∧ t.rxCnt = 0
      ∧ nextMoveOf s = .engine
      ∧ ∃ b rest, s.seq = .hold (.rxClr b rest) ∧ s.ep1.bankFlag b = false
  | .toHost n bytes => nextMoveOf s = .busInAck n ∧ bytes = (txEndpoint n s).txFifo
      ∧ (txEndpoint n s).enabled = true ∧ (txEndpoint n s).txTrigger = true
  | .pollReturn serviced => t.seq = .idle
      ∧ ((pollNext s ∧ serviced = pollHasWork s) ∨ (pollGoesOn s ∧ serviced = true))
  | .halt r => t.seq = .halted r ∧ failureOf r s
  | .crcResult v => (nextMoveOf s = .invoke [0x03] ∧ v = s.crcAcc)
      ∨ (nextMoveOf s = .invoke [0x04] ∧ v = ~~~ s.crcAcc)

end Sys2Proof.Machine
end

