-- ==== Sys2Proof/Certificates/Slice0/Obligations.lean ====
section
/-! DEFINITION. The statements for the provers. Each docstring names the rules of spec/ it formalises or
rests on. -/

open Sys2Proof Sys2Proof.Machine

/-- O1. Reset, and a restart from any state, give the power-on values; the history stays. After a
restart every element has its power-on value (R341, R60), and the history is kept (R54). Keeping
`cfg`, `flash` and `script` is the model's choice (assumption logs 1, 4, 6). -/
def Obligations.RestartGivesPowerOn : Prop :=
  PowerOn State.reset ∧ ∀ s : State, ∃ t, move .restart s = .next t ∧ PowerOn t
    ∧ t.history = s.history ∧ t.cfg = s.cfg ∧ t.flash = s.flash ∧ t.script = s.script

/-- O2. The state after reset is a good state. The invariant of StepKeepsInvariant holds at reset. -/
def Obligations.ResetMeetsInvariant : Prop :=
  Inv State.reset

/-- O3. In the power-on state POLL returns false and BusReset is the only move of BUS. A POLL in the
restart state finds nothing and returns false; the only BUS move is `BusReset` (R342). -/
def Obligations.RestartStateIsQuiet : Prop :=
  ∀ s : State, PowerOn s →
    exec .poll s = .next { s with history := s.history ++ [.pollReturn false] }
    ∧ (∀ m, isBusMove m = true → m ≠ .busReset → move m s = .refused .noSuchBusMove)
    ∧ move .busReset s = .next { s with busResetPending := true }

/-- O4. A few words written out from the spec decode to what they stand for. Words written out byte by
byte from the spec's encodings. How operand bytes follow an `op_sel` is the model's choice
(assumption log 8). -/
def Obligations.DecodeSampleWords : Prop :=
  decode Config.default .opsel [0x10] = .ok .poll
  ∧ decode Config.default .opsel [0x01, 0x5C, 0x1F, 0x1C, 0x64] = .ok (.crcLoad 0x641C1F5C)
  ∧ decode Config.default .setup [0x80, 0x06, 0x00, 0x01, 0x00, 0x00, 0x40, 0x00]
      = .ok (.getDescriptorDevice 0x80 0x00 0x0000 0x0040)
  ∧ decode Config.default .setup [0x00, 0x05, 0x05, 0x00, 0x00, 0x00, 0x00, 0x00]
      = .ok (.setAddress 0x00 5 0 0x0000 0x0000)
  ∧ decode Config.default .setup [0x82, 0x00, 0x00, 0x00, 0x82, 0x00, 0x02, 0x00]
      = .ok (.getStatusEndpoint 0 0x0000 0x0082 0x0002)
  ∧ decode Config.default .setup [0xC0, 0x33, 0x00, 0x00, 0x00, 0x00, 0x40, 0x00]
      = .ok (.unknownRequest 0xC0 0x33 0x0000 0x0000 0x0040)
  ∧ decode Config.default .frame ([0x03, 0x00, 0x00, 0x00, 0x00, 0x20, 0x10, 0x00]
        ++ List.replicate 56 0)
      = .ok (.frameFinishWrite 0x102000 0 0 (List.replicate 48 0))

/-- O5. Decoding the encoding of any well-formed instruction gives it back. No bit of an encoding is
dropped, for all 31 rows. -/
def Obligations.DecodeOfEncodeIsTheInstruction : Prop :=
  ∀ (c : Config) (i : Instr), c.codesDistinct = true → wellFormed c i = true →
    decode c i.format (encode c i) = .ok i

/-- O6. What decodes is well-formed and encodes to the same bytes. The other direction of
DecodeOfEncodeIsTheInstruction. -/
def Obligations.EncodeOfDecodeIsTheWord : Prop :=
  ∀ (c : Config) (f : Format) (bytes : Bytes) (i : Instr), decode c f bytes = .ok i →
    wellFormed c i = true ∧ i.format = f ∧ encode c i = bytes

/-- O7. The decoder selects the opcode table's matching SETUP row of lowest priority. A row selects a
packet when `(W and mask) = match`, and among the rows that match the one with the lowest priority
selects (R112). -/
def Obligations.SetupSelectionFollowsTable : Prop :=
  ∀ p : Setup, ∃ r ∈ setupRows, r.mnemonic = (decodeSetup Config.default p).mnemonic
    ∧ r.selects p.word = true
    ∧ ∀ r' ∈ setupRows, r'.selects p.word = true → r' = r ∨ r.priority < r'.priority

/-- O8. Each request code, descriptor type and GET_STATUS request type selects its rule. The operation
is selected by `bRequest`, then by the descriptor type or the request type (R114, R116, R119). -/
def Obligations.RequestCodesSelectRequests : Prop :=
  Config.default.req.toList = [0x00, 0x01, 0x03, 0x05, 0x06, 0x07, 0x08, 0x09, 0x0A, 0x0B, 0x0C]
  ∧ Config.default.dt.toList = [0x01, 0x02, 0x03, 0x22]
  ∧ ∀ c : Config, c.codesDistinct = true → ∀ (rt b : Byte) (v x l : Half),
    decodeSetup c ⟨rt, c.req.clearFeature, v, x, l⟩ = .clearFeature rt v x l
    ∧ decodeSetup c ⟨rt, c.req.setFeature, v, x, l⟩ = .setFeature rt v x l
    ∧ decodeSetup c ⟨rt, c.req.setAddress, v, x, l⟩
        = .setAddress rt (v.extractLsb' 0 7) (v.extractLsb' 7 9) x l
    ∧ decodeSetup c ⟨rt, c.req.setDescriptor, v, x, l⟩ = .setDescriptor rt v x l
    ∧ decodeSetup c ⟨rt, c.req.getConfiguration, v, x, l⟩ = .getConfiguration rt v x l
    ∧ decodeSetup c ⟨rt, c.req.setConfiguration, v, x, l⟩
        = .setConfiguration rt (v.extractLsb' 0 8) (v.extractLsb' 8 8) x l
    ∧ decodeSetup c ⟨rt, c.req.getInterface, v, x, l⟩ = .getInterface rt v x l
    ∧ decodeSetup c ⟨rt, c.req.setInterface, v, x, l⟩ = .setInterface rt v x l
    ∧ decodeSetup c ⟨rt, c.req.syncFrame, v, x, l⟩ = .syncFrame rt v x l
    ∧ (b ∉ c.req.toList → decodeSetup c ⟨rt, b, v, x, l⟩ = .unknownRequest rt b v x l)
    ∧ (v.extractLsb' 8 8 = c.dt.device → decodeSetup c ⟨rt, c.req.getDescriptor, v, x, l⟩
        = .getDescriptorDevice rt (v.extractLsb' 0 8) x l)
    ∧ (v.extractLsb' 8 8 = c.dt.configuration → decodeSetup c ⟨rt, c.req.getDescriptor, v, x, l⟩
        = .getDescriptorConfiguration rt (v.extractLsb' 0 8) x l)
    ∧ (v.extractLsb' 8 8 = c.dt.string → decodeSetup c ⟨rt, c.req.getDescriptor, v, x, l⟩
        = .getDescriptorString rt (v.extractLsb' 0 8) x l)
    ∧ (v.extractLsb' 8 8 = c.dt.hidReport → decodeSetup c ⟨rt, c.req.getDescriptor, v, x, l⟩
        = .getDescriptorHidReport rt (v.extractLsb' 0 8) x l)
    ∧ (v.extractLsb' 8 8 ∉ c.dt.toList → decodeSetup c ⟨rt, c.req.getDescriptor, v, x, l⟩
        = .getDescriptorUnknownType rt (v.extractLsb' 8 8) (v.extractLsb' 0 8) x l)
    ∧ (rt.getLsbD 7 = true → rt.extractLsb' 0 5 = 0 →
        decodeSetup c ⟨rt, c.req.getStatus, v, x, l⟩ = .getStatusDevice (rt.extractLsb' 5 2) v x l)
    ∧ (rt.getLsbD 7 = true → rt.extractLsb' 0 5 = 1 →
        decodeSetup c ⟨rt, c.req.getStatus, v, x, l⟩
          = .getStatusInterface (rt.extractLsb' 5 2) v x l)
    ∧ (rt.getLsbD 7 = true → rt.extractLsb' 0 5 = 2 →
        decodeSetup c ⟨rt, c.req.getStatus, v, x, l⟩
          = .getStatusEndpoint (rt.extractLsb' 5 2) v x l)
    ∧ (rt.getLsbD 7 = false ∨ 2 < (rt.extractLsb' 0 5).toNat →
        decodeSetup c ⟨rt, c.req.getStatus, v, x, l⟩ = .getStatusOther rt v x l)

/-- O9. The effect of a request depends only on bRequest and the fields its rule reads. Only
`bRequest` selects the request (R113, R360); each operand field is read only where R115, R117,
R118, R119 and R120 say so, and all other bits are ignored (R129). -/
def Obligations.OnlySelectingFieldsMatter : Prop :=
  ∀ (s : State) (p q : Setup), p.bRequest = q.bRequest →
    (if p.bRequest = s.cfg.req.getStatus then
      p.bmRequestType.getLsbD 7 = q.bmRequestType.getLsbD 7
      ∧ (p.bmRequestType.getLsbD 7 = true →
        p.bmRequestType.extractLsb' 0 5 = q.bmRequestType.extractLsb' 0 5)
    else
      (p.bRequest = s.cfg.req.getDescriptor →
        p.wValue.extractLsb' 8 8 = q.wValue.extractLsb' 8 8
        ∧ (p.wValue.extractLsb' 8 8 ∈ s.cfg.dt.toList → p.wLength = q.wLength)
        ∧ (p.wValue.extractLsb' 8 8 = s.cfg.dt.string →
          p.wValue.extractLsb' 0 8 = q.wValue.extractLsb' 0 8))
      ∧ (p.bRequest = s.cfg.req.setAddress →
        p.wValue.extractLsb' 0 7 = q.wValue.extractLsb' 0 7)
      ∧ (p.bRequest = s.cfg.req.setConfiguration →
        p.wValue.extractLsb' 0 8 = q.wValue.extractLsb' 0 8)) →
    exec (decodeSetup s.cfg p) s = exec (decodeSetup s.cfg q) s

/-- O10. A step makes the script's next move, or the ENGINE's when there is none. Scheduling as plain
data: the model's choice (assumption log 1). What is refused is a configuration R72 or R276 says
to refuse; that the refusal is the step's is the model's choice (assumption log 4). -/
def Obligations.StepMakesTheNextMove : Prop :=
  ∀ s : State,
    (s.cfg.wf = true → step s = move (nextMoveOf s) { s with script := s.script.tail })
    ∧ (s.cfg.wf = false → step s = .refused .badConfiguration)
    ∧ (s.cfg.wf = true ↔ (∀ t ∈ s.cfg.rom.strings, t ≠ [] ∧ (t.headD 0).toNat = t.length)
      ∧ s.cfg.ep0OutFlagging = .none)

/-- O11. A step runs exactly the instruction that the fetched bytes decode to. Where the three formats
are fetched: a call, the SETUP latch after both handshakes, the frame at HP_DISPATCH. -/
def Obligations.StepRunsTheDecodedInstruction : Prop :=
  ∀ (s : State) (i : Instr) (rest : List Move), s.cfg.wf = true →
    (∀ call, s.script = .invoke call :: rest → decode s.cfg .opsel call = .ok i →
      step s = exec i { s with script := rest })
    ∧ (s.script = .engine :: rest → s.seq = .hold .setupClr → s.ep0.rxSetup = false →
      decode s.cfg .setup s.setup.toBytes = .ok i → step s = exec i { s with script := rest })
    ∧ (∀ frame banks, s.script = .serveFrame :: rest → s.seq = .hold (.dispatch frame banks) →
      decode s.cfg .frame frame = .ok i → step s = exec i { s with script := rest })

/-- O12. The byte step is eight reflected shift steps, and a feed folds it over the bytes. The byte
step (R151) and the feed (R152). -/
def Obligations.CrcFunctionIsTheReflectedRecurrence : Prop :=
  (∀ (acc : Word) (b : Byte), crcByte acc b
      = (fun a : Word => if a.getLsbD 0 then (a >>> 1) ^^^ 0xEDB88320#32 else a >>> 1)^[8]
          (acc ^^^ b.zeroExtend 32))
  ∧ (∀ acc : Word, crcFeed acc [] = acc)
  ∧ (∀ (acc : Word) (b : Byte) (bytes : Bytes),
      crcFeed acc (b :: bytes) = crcFeed (crcByte acc b) bytes)
  ∧ crc32 [0x31, 0x32, 0x33, 0x34, 0x35, 0x36, 0x37, 0x38, 0x39] = 0xCBF43926#32
  ∧ crc32 [] = 0x00000000#32

/-- O13. CRC_SEED and CRC_LOAD complete from every state and write only crc_acc. `crc_acc <-
0xFFFFFFFF` (R153), `crc_acc <- v` (R154), and nothing else. -/
def Obligations.CrcSeedAndLoadSetTheAccumulator : Prop :=
  ∀ (c : Config) (s : State) (v : Word),
    exec .crcSeed s = .next { s with crcAcc := 0xFFFFFFFF#32 }
    ∧ exec (.crcLoad v) s = .next { s with crcAcc := v }
    ∧ decode c .opsel [0x00] = .ok .crcSeed
    ∧ (encode c (.crcLoad v)).head? = some 0x01
    ∧ andThen (exec .crcSeed s) (exec .crcSeed) = exec .crcSeed s
    ∧ exec .crcSeed s = exec (.crcLoad 0xFFFFFFFF#32) s
    ∧ ∃ t, andThen (exec (.crcLoad 0x641C1F5C#32) s) (fun s =>
          andThen (exec (.crcFeed [0x35, 0x36, 0x37, 0x38, 0x39]) s) (exec .crcFinal)) = .next t
        ∧ t.history = s.history ++ [.crcResult 0xCBF43926#32]

/-- O14. CRC_FEED completes from every state and writes only crc_acc. `crc_acc <- crc_feed(crc_acc,
s)`, and nothing else (R155). That the operand bytes follow `op_sel` to the end of the call is the
model's choice (assumption log 8). -/
def Obligations.CrcFeedUpdatesTheAccumulator : Prop :=
  ∀ (c : Config) (s : State) (bytes more : Bytes),
    exec (.crcFeed bytes) s = .next { s with crcAcc := crcFeed s.crcAcc bytes }
    ∧ decode c .opsel (0x02 :: bytes) = .ok (.crcFeed bytes)
    ∧ exec (.crcFeed []) s = .next s
    ∧ andThen (exec (.crcFeed bytes) s) (exec (.crcFeed more)) = exec (.crcFeed (bytes ++ more)) s
    ∧ crcFeed 0xFFFFFFFF#32 [0x31] = 0x7C231048#32

/-- O15. CRC_RAW returns crc_acc, CRC_FINAL its complement; neither changes it. `v <- crc_acc` (R156)
and `v <- not_32(crc_acc)` (R157), the accumulator unchanged. -/
def Obligations.CrcRawAndFinalReturnTheAccumulator : Prop :=
  ∀ (c : Config) (s : State),
    exec .crcRaw s = .next { s with history := s.history ++ [.crcResult s.crcAcc] }
    ∧ exec .crcFinal s = .next { s with history := s.history ++ [.crcResult (~~~ s.crcAcc)] }
    ∧ decode c .opsel [0x03] = .ok .crcRaw ∧ decode c .opsel [0x04] = .ok .crcFinal
    ∧ ~~~ s.crcAcc = s.crcAcc ^^^ 0xFFFFFFFF#32
    ∧ (∃ t, andThen (exec .crcSeed s) (fun s =>
          andThen (exec (.crcFeed [0x31, 0x32, 0x33, 0x34]) s) (exec .crcRaw)) = .next t
        ∧ t.history = s.history ++ [.crcResult 0x641C1F5C#32])
    ∧ (∃ t, andThen (exec .crcSeed s) (exec .crcFinal) = .next t
        ∧ t.history = s.history ++ [.crcResult 0x00000000#32])
    ∧ (∃ t, andThen (exec .crcSeed s) (fun s => andThen (exec (.crcFeed
            [0x31, 0x32, 0x33, 0x34, 0x35, 0x36, 0x37, 0x38, 0x39]) s) (exec .crcFinal)) = .next t
        ∧ t.history = s.history ++ [.crcResult 0xCBF43926#32])

/-- O16. The table form gives the same values; feeds compose, miss leading zeros from 0, and are
linear. The table form of R159 and the arithmetic laws (1) to (3) of R160. -/
def Obligations.CrcTableFormAndFeedLaws : Prop :=
  (∀ (acc : Word) (b : Byte),
      crcByte acc b = crcByte 0 ((acc ^^^ b.zeroExtend 32).extractLsb' 0 8) ^^^ (acc >>> 8))
  ∧ (∀ (acc : Word) (s t : Bytes), crcFeed acc (s ++ t) = crcFeed (crcFeed acc s) t)
  ∧ (∀ n : Nat, crcFeed 0 (List.replicate n 0) = 0)
  ∧ (∀ (acc d : Word) (s : Bytes),
      crcFeed (acc ^^^ d) s = crcFeed acc s ^^^ crcFeed d (List.replicate s.length 0))

/-- O17. A message followed by its own checksum leaves crc_acc = DEBB20E3, whatever the message. The
residue law (4) of R160. -/
def Obligations.CrcResidueIsConstant : Prop :=
  ∀ s : Bytes, crcFeed crcSeedValue (s ++ bytes32 (crc32 s)) = 0xDEBB20E3#32

/-- O18. The CRC unit shares no state with the rest: neither writes or reads the other. The only state
of the CRC unit is `crc_acc`; its operations read and write no other, and no operation of the
other units reads or writes it (R150). -/
def Obligations.CrcUnitSharesNoState : Prop :=
  (∀ (s u : State) (i : Instr) (call : Bytes) (rest rest' : List Move),
      s.cfg.wf = true → u.cfg.wf = true → s.crcAcc = u.crcAcc →
      s.script = .invoke call :: rest → u.script = .invoke call :: rest' →
      decode s.cfg .opsel call = .ok i →
      i ∈ [Instr.crcSeed, .crcRaw, .crcFinal] ∨ (∃ v, i = .crcLoad v) ∨ (∃ b, i = .crcFeed b) →
      ∃ acc results,
        step s = .next { s with crcAcc := acc, history := s.history ++ results, script := rest }
        ∧ step u
          = .next { u with crcAcc := acc, history := u.history ++ results, script := rest' })
  ∧ (∀ (s : State) (v : Word), ¬ crcCallNext s → ¬ restartNext s →
      step { s with crcAcc := v } = mapNext (fun t => { t with crcAcc := v }) (step s))

/-- O19. A POLL that finds a bus reset pending performs the whole bus-reset service and returns true.
BusResetService (R182) over EndpointReset (R183), in one ENGINE step. -/
def Obligations.PollServicesBusReset : Prop :=
  ∀ s : State, s.seq = .idle → s.busResetPending = true →
    exec .poll s = .next { s with
      busResetPending := false
      ep0 := { Endpoint.reset with enabled := true, eptype := .control }
      ep1 := { Endpoint.reset with eptype := s.ep1.eptype }
      ep2 := { Endpoint.reset with eptype := s.ep2.eptype }
      fillNext := .b0
      curCfg := 0
      devAddr := 0
      link := .default
      history := s.history ++ [.pollReturn true] }

/-- O20. POLL latches a SETUP, then the direction handshake, then the consumed handshake, then
dispatch. SetupRequestHandler (R184), DirectionHandshake (R185), SetupConsumedHandshake (R186). -/
def Obligations.SetupHandlerLatchesAndHandshakes : Prop :=
  (∀ (s : State) (p0 p1 p2 p3 p4 p5 p6 p7 : Byte), s.seq = .idle → s.busResetPending = false →
      s.ep0.rxSetup = true → s.ep0.rxFifo0 = [p0, p1, p2, p3, p4, p5, p6, p7] →
      exec .poll s = .next { s with
        setup := ⟨p0, p1, u16le p2 p3, u16le p4 p5, u16le p6 p7⟩
        ep0 := if p0.getLsbD 7 then { s.ep0 with rxFifo0 := [], dirReq := .set }
          else { s.ep0 with rxFifo0 := [], rxSetupReq := .clr }
        seq := if p0.getLsbD 7 then .hold .dir else .hold .setupClr
        spin := 0 })
  ∧ (∀ s : State, s.seq = .hold .dir →
      (s.ep0.dir = true → move .engine s = .next { s with
        ep0 := { s.ep0 with rxSetupReq := .clr }, seq := .hold .setupClr, spin := 0 })
      ∧ (s.ep0.dir = false → s.cfg.spinCap = none → move .engine s = .next s))
  ∧ (∀ s : State, s.seq = .hold .setupClr →
      (s.ep0.rxSetup = false → move .engine s = exec (latchedRequest s) s)
      ∧ (s.ep0.rxSetup = true → s.cfg.spinCap = none → move .engine s = .next s))
  ∧ (∀ s : State, Inv s → s.seq = .idle → s.ep0.rxSetup = true → s.ep0.dir = false)

/-- O21. POLL tests EP1 last; with nothing pending it changes no state and returns false. POLL's third
test, the last in priority, and the corner case of R180. -/
def Obligations.PollTestsEp1LastAndReturns : Prop :=
  ∀ (s : State) (v : Bool),
    (s.seq = .idle → s.busResetPending = false → s.ep0.rxSetup = false →
      exec .poll s = pollStep3 false s
      ∧ (s.ep1.rxBank0 = false → s.ep1.rxBank1 = false →
        exec .poll s = .next { s with history := s.history ++ [.pollReturn false] }))
    ∧ (ep1Pending s = false → pollStep3 v s
        = .next { s with seq := .idle, history := s.history ++ [.pollReturn v] })
    ∧ (ep1Pending s = true → pollStep3 v s = drainBanks (bankOrder s.cfg.rxBankOrder) s)

/-- O22. POLL exists only when Idle; SEND_FRAME only when Idle or at HP_DISPATCH. The preconditions of
the two operations. A refusal is how the model says that there is no such move. -/
def Obligations.OperationsRefusedWhileBusy : Prop :=
  ∀ (s : State) (bytes : Bytes), s.seq ≠ .idle →
    exec .poll s = .refused .engineBusy
    ∧ ((∀ frame rest, s.seq ≠ .hold (.dispatch frame rest)) →
      exec (.sendFrame bytes) s = .refused .engineBusy)

/-- O23. DrainBank: overflow first, then the pops into RXBUF, the delayed clear, the 64-byte test.
DrainBank (R243) with its overflow test (R242); `spin` is the model's own counter. -/
def Obligations.DrainBankAppendsAndClears : Prop :=
  (∀ (s : State) (b : Bank) (rest : List Bank),
      (s.rxCnt + s.ep1.bankCount b > 64 →
        drainBank b rest s = .next { s with
          seq := .halted .malformedFrame, history := s.history ++ [.halt .malformedFrame] })
      ∧ (s.rxCnt + s.ep1.bankCount b ≤ 64 → (s.ep1.bankFifo b).length = s.ep1.bankCount b →
        ∃ buf : Vector Byte 64,
          drainBank b rest s = .next { s with
            rxBuf := buf
            rxCnt := s.rxCnt + s.ep1.bankCount b
            ep1 := (s.ep1.setBankFifo b []).setBankReq b .clr
            seq := .hold (.rxClr b rest)
            spin := 0 }
          ∧ (∀ i < s.ep1.bankCount b, buf[s.rxCnt + i]? = (s.ep1.bankFifo b)[i]?)
          ∧ (∀ j, j < s.rxCnt ∨ s.rxCnt + s.ep1.bankCount b ≤ j → buf[j]? = s.rxBuf[j]?))
      ∧ (s.ep1.bankCount b = 8 → s.rxCnt % 8 = 0 → s.rxCnt < 64 →
        s.rxCnt + s.ep1.bankCount b ≤ 64))
  ∧ (∀ (s : State) (b : Bank) (rest : List Bank), s.seq = .hold (.rxClr b rest) →
      (s.ep1.bankFlag b = true → s.cfg.spinCap = none → move .engine s = .next s)
      ∧ (s.ep1.bankFlag b = false → s.rxCnt = 64 → move .engine s = .next { s with
          rxCnt := 0
          history := s.history ++ [.dispatch s.rxBuf.toList]
          seq := .hold (.dispatch s.rxBuf.toList rest)
          spin := 0 })
      ∧ (s.ep1.bankFlag b = false → s.rxCnt ≠ 64 → move .engine s = drainBanks rest s))

/-- O24. The receive handler tests each bank's flag when its turn comes, in RX_BANK_ORDER.
DataReceiveHandler (R240), and what follows a dispatch (R247). -/
def Obligations.BanksAreTestedWhenTheirTurnComes : Prop :=
  bankOrder .bank0First = [.b0, .b1] ∧ bankOrder .bank1First = [.b1, .b0]
  ∧ (∀ s : State, drainBanks [] s
      = .next { s with seq := .idle, history := s.history ++ [.pollReturn true] })
  ∧ (∀ (s : State) (b : Bank) (rest : List Bank),
      (s.ep1.bankFlag b = true → drainBanks (b :: rest) s = drainBank b rest s)
      ∧ (s.ep1.bankFlag b = false → drainBanks (b :: rest) s = drainBanks rest s))
  ∧ (∀ (s : State) (b : Bank) (rest : List Bank), s.seq = .hold (.rxClr b rest) →
      s.ep1.bankFlag b = false → s.rxCnt < 64 → move .engine s = drainBanks rest s)
  ∧ (∀ (s : State) (frame : Bytes) (rest : List Bank), s.seq = .hold (.dispatch frame rest) →
      move .consumerReturn s = drainBanks rest s)

/-- O25. POLL with an EP1 packet pending completes: it drains the first flagged bank, or fail-stops.
POLL's third step (R180) from a good state, over R240, R242 and R243; `spin` is the model's own
counter (assumption log 3). -/
def Obligations.PollDrainsThePendingBank : Prop :=
  ∀ (s : State) (b : Bank) (pre rest : List Bank), Inv s → s.seq = .idle →
    s.busResetPending = false → s.ep0.rxSetup = false →
    bankOrder s.cfg.rxBankOrder = pre ++ b :: rest →
    (∀ b' ∈ pre, s.ep1.bankFlag b' = false) → s.ep1.bankFlag b = true →
    (s.rxCnt + s.ep1.bankCount b ≤ 64 → ∃ buf : Vector Byte 64,
      exec .poll s = .next { s with
        rxBuf := buf
        rxCnt := s.rxCnt + s.ep1.bankCount b
        ep1 := (s.ep1.setBankFifo b []).setBankReq b .clr
        seq := .hold (.rxClr b rest)
        spin := 0 }
      ∧ buf = storeBytes s.rxBuf s.rxCnt (s.ep1.bankFifo b)
      ∧ (∀ i < s.ep1.bankCount b, buf[s.rxCnt + i]? = (s.ep1.bankFifo b)[i]?)
      ∧ (∀ j, j < s.rxCnt ∨ s.rxCnt + s.ep1.bankCount b ≤ j → buf[j]? = s.rxBuf[j]?))
    ∧ (64 < s.rxCnt + s.ep1.bankCount b → exec .poll s = .next { s with
      seq := .halted .malformedFrame, history := s.history ++ [.halt .malformedFrame] })

/-- O26. Packets of any sizes that total 64 bytes are reassembled in order and dispatched once. A host
that cuts a frame into other packet sizes is still reassembled, as long as the packets total
exactly 64 bytes (R126), under the premise of R359. -/
def Obligations.FramesAreReassembledFromPackets : Prop :=
  ∀ (s : State) (ps : List (Bank × Bytes)) (b : Bank) (d : Bytes),
    canReceive s → s.rxCnt = 0 → s.cfg.bankFillPolicy = .any →
    (∀ p ∈ ps, p.2.length ≤ 8) → d.length ≤ 8 →
    (packetBytes ps).length < 64 → (packetBytes ps).length + d.length = 64 →
    ∃ t rest, runMoves (receiveRounds ps ++ receiveRound b d) s = .next t
      ∧ t.seq = .hold (.dispatch (packetBytes ps ++ d) rest)
      ∧ t.rxCnt = 0
      ∧ t.history = s.history ++ List.replicate ps.length (.pollReturn true)
          ++ [.dispatch (packetBytes ps ++ d)]
      ∧ t = { s with
          rxBuf := t.rxBuf, seq := t.seq, spin := t.spin, history := t.history, ep1 := t.ep1 }
      ∧ t.ep1.enabled = true ∧ t.ep1.rxBank0 = false ∧ t.ep1.rxBank1 = false
      ∧ t.ep1.rxBank0Req = .none ∧ t.ep1.rxBank1Req = .none

/-- O27. GET_DESCRIPTOR Device, Configuration, HID-Report send min(descriptor, wLength) bytes. R211,
R212, R215 over the common part R210; `spin` is the model's own counter (assumption log 3). With
bit 7 of `bmRequestType` clear the packets rest on assumption log 13 (U10): a claim about the
hardware takes bit 7 set as a premise. -/
def Obligations.GetDescriptorSendsTheClippedDescriptor : Prop :=
  (∀ (rt index : Byte) (wIndex wLength : Half) (s : State) (e : Instr × Src), canReply s →
      e ∈ [(Instr.getDescriptorDevice rt index wIndex wLength, Src.romDevice),
        (Instr.getDescriptorConfiguration rt index wIndex wLength, Src.romConfig),
        (Instr.getDescriptorHidReport rt index wIndex wLength, Src.romHidReport)] →
      let n := min (srcBytes s.cfg e.2).length wLength.toNat
      exec e.1 s = .next (queuedOnEp0 ((srcBytes s.cfg e.2).take (min n 8)) (.ctlTx ⟨e.2, 0, n⟩) s)
      ∧ andThen (exec e.1 s) (runMoves (ackRounds .ep0 (max 1 ((n + 7) / 8))))
          = pollStep3 true
              (delivered .ep0 (dataStagePackets ((srcBytes s.cfg e.2).take n)) s)
      ∧ (ep1Pending s = false →
          andThen (exec e.1 s) (runMoves (ackRounds .ep0 (max 1 ((n + 7) / 8))))
            = .next (polledTrue
                (delivered .ep0 (dataStagePackets ((srcBytes s.cfg e.2).take n)) s))))
  ∧ (∀ c : Config, srcBytes c .romDevice = c.rom.device ∧ srcBytes c .romConfig = c.rom.config
      ∧ srcBytes c .romHidReport = c.rom.hidReport)
  ∧ (∀ p : Setup,
      (p.word &&& 0x00000000FF00FF00 = 0x0000000001000600 →
        ∃ rt x i l, decodeSetup Config.default p = .getDescriptorDevice rt x i l)
      ∧ (p.word &&& 0x00000000FF00FF00 = 0x0000000002000600 →
        ∃ rt x i l, decodeSetup Config.default p = .getDescriptorConfiguration rt x i l)
      ∧ (p.word &&& 0x00000000FF00FF00 = 0x0000000022000600 →
        ∃ rt x i l, decodeSetup Config.default p = .getDescriptorHidReport rt x i l))

/-- O28. GET_DESCRIPTOR String sends min(first byte, wLength) bytes, or nothing past the table. R213
over the common part R210; `spin` is the model's own counter (assumption log 3). No reply past the
table (U3), and the packets with bit 7 of `bmRequestType` clear (U10), rest on assumption log 13:
a claim about the hardware should depend on neither. -/
def Obligations.GetDescriptorStringSendsTheString : Prop :=
  ∀ (rt index : Byte) (wIndex wLength : Half) (s : State),
    (∀ D : Bytes, s.cfg.wf = true → canReply s → s.cfg.rom.strings[index.toNat]? = some D →
      let n := min (D.headD 0).toNat wLength.toNat
      exec (.getDescriptorString rt index wIndex wLength) s
        = .next (queuedOnEp0 (D.take (min n 8)) (.ctlTx ⟨.romString index.toNat, 0, n⟩) s)
      ∧ andThen (exec (.getDescriptorString rt index wIndex wLength) s)
            (runMoves (ackRounds .ep0 (max 1 ((n + 7) / 8))))
          = pollStep3 true (delivered .ep0 (dataStagePackets (D.take n)) s)
      ∧ (ep1Pending s = false →
          andThen (exec (.getDescriptorString rt index wIndex wLength) s)
              (runMoves (ackRounds .ep0 (max 1 ((n + 7) / 8))))
            = .next (polledTrue (delivered .ep0 (dataStagePackets (D.take n)) s))))
    ∧ (s.cfg.rom.strings.length ≤ index.toNat →
      exec (.getDescriptorString rt index wIndex wLength) s = pollStep3 true s
      ∧ (ep1Pending s = false →
        exec (.getDescriptorString rt index wIndex wLength) s = .next (polledTrue s)))
    ∧ (∀ p : Setup, p.word &&& 0x00000000FF00FF00 = 0x0000000003000600 →
        ∃ rt x i l, decodeSetup Config.default p = .getDescriptorString rt x i l)

/-- O29. GET_CONFIGURATION, GET_STATUS and GET_INTERFACE send their one or two bytes, whatever
wLength. R217, R219, R220; `spin` is the model's own counter (assumption log 3). The packets of
GET_CONFIGURATION and GET_INTERFACE with bit 7 of `bmRequestType` clear rest on assumption log 13
(U10): a claim about the hardware takes bit 7 set as a premise. -/
def Obligations.FixedRepliesAreSentWhole : Prop :=
  ∀ (rt : Byte) (kind : BitVec 2) (wValue wIndex wLength : Half) (s : State),
    (∀ e : Instr × Bytes, canReply s →
      e ∈ [(Instr.getConfiguration rt wValue wIndex wLength, [s.curCfg]),
        (Instr.getStatusDevice kind wValue wIndex wLength, [0x00, 0x00]),
        (Instr.getStatusInterface kind wValue wIndex wLength, [0x00, 0x00]),
        (Instr.getStatusEndpoint kind wValue wIndex wLength, [0x00, 0x00]),
        (Instr.getInterface rt wValue wIndex wLength, [0x00])] →
      exec e.1 s = .next (queuedOnEp0 e.2 (.ctlTx ⟨.bytes e.2, 0, e.2.length⟩) s)
      ∧ andThen (exec e.1 s) (runMoves (ackRounds .ep0 1))
          = pollStep3 true (delivered .ep0 [e.2] s)
      ∧ (ep1Pending s = false → andThen (exec e.1 s) (runMoves (ackRounds .ep0 1))
          = .next (polledTrue (delivered .ep0 [e.2] s))))
    ∧ exec (.getStatusOther rt wValue wIndex wLength) s = pollStep3 true s
    ∧ (ep1Pending s = false →
        exec (.getStatusOther rt wValue wIndex wLength) s = .next (polledTrue s))
    ∧ (∀ p : Setup,
      (p.word &&& 0x000000000000FF00 = 0x0000000000000800 →
        ∃ rt v i l, decodeSetup Config.default p = .getConfiguration rt v i l)
      ∧ (p.word &&& 0x000000000000FF00 = 0x0000000000000A00 →
        ∃ rt v i l, decodeSetup Config.default p = .getInterface rt v i l)
      ∧ (p.word &&& 0x000000000000FF00 = 0 →
        if p.bmRequestType.getLsbD 7 = true ∧ (p.bmRequestType.extractLsb' 0 5).toNat ≤ 2 then
          ∃ k v i l, decodeSetup Config.default p ∈ [Instr.getStatusDevice k v i l,
            .getStatusInterface k v i l, .getStatusEndpoint k v i l]
        else ∃ rt v i l, decodeSetup Config.default p = .getStatusOther rt v i l))

/-- O30. SET_INTERFACE sends a zero-length status reply and writes nothing. R221, "Zero-length status
reply only." -/
def Obligations.SetInterfaceSendsZeroLengthStatus : Prop :=
  ∀ (rt : Byte) (wValue wIndex wLength : Half) (s : State),
    (canReply s →
      exec (.setInterface rt wValue wIndex wLength) s
        = .next (queuedOnEp0 [] (.zlpTx .nothing) s)
      ∧ andThen (exec (.setInterface rt wValue wIndex wLength) s) (runMoves (ackRounds .ep0 1))
          = pollStep3 true (delivered .ep0 [[]] s)
      ∧ (ep1Pending s = false →
        andThen (exec (.setInterface rt wValue wIndex wLength) s) (runMoves (ackRounds .ep0 1))
          = .next (polledTrue (delivered .ep0 [[]] s))))
    ∧ (∀ p : Setup, p.word &&& 0x000000000000FF00 = 0x0000000000000B00 →
        ∃ rt v i l, decodeSetup Config.default p = .setInterface rt v i l)

/-- O31. SET_ADDRESS sends its status reply first and only then programs the address and the link.
R216: the status packet goes out and its handshake completes while the device still answers at the
old address. -/
def Obligations.SetAddressTakesEffectAfterItsStatus : Prop :=
  ∀ (rt : Byte) (addr : BitVec 7) (high : BitVec 9) (wIndex wLength : Half) (s : State),
    (canReply s →
      let done := delivered .ep0 [[]] { s with
        devAddr := addr, link := if addr = 0 then .default else .addressed }
      exec (.setAddress rt addr high wIndex wLength) s
        = .next (queuedOnEp0 [] (.zlpTx (.setAddress addr)) s)
      ∧ (∀ k < 4, ∃ t, andThen (exec (.setAddress rt addr high wIndex wLength) s)
          (runMoves ((ackRound .ep0).take k)) = .next t ∧ t.devAddr = s.devAddr ∧ t.link = s.link)
      ∧ andThen (exec (.setAddress rt addr high wIndex wLength) s) (runMoves (ackRounds .ep0 1))
          = pollStep3 true done
      ∧ (ep1Pending s = false →
        andThen (exec (.setAddress rt addr high wIndex wLength) s) (runMoves (ackRounds .ep0 1))
          = .next (polledTrue done)))
    ∧ (∀ p : Setup, p.word &&& 0x000000000000FF00 = 0x0000000000000500 →
        ∃ rt h i l, decodeSetup Config.default p = .setAddress rt (p.wValue.extractLsb' 0 7) h i l)

/-- O32. SET_CONFIGURATION stores the value, enables or disables EP1 and EP2, then sends its status.
R218: the state first, the status reply last. -/
def Obligations.SetConfigurationSwitchesTheEndpoints : Prop :=
  ∀ (rt v high : Byte) (wIndex wLength : Half) (s : State),
    (canReply s →
      let set := if v = 0 then { s with
          curCfg := v, link := .addressed
          ep1 := { s.ep1 with enabled := false }
          ep2 := { s.ep2 with enabled := false } }
        else { s with
          curCfg := v, link := .configured
          ep1 := { s.ep1 with enabled := true, eptype := .interruptOut }
          ep2 := { s.ep2 with enabled := true, eptype := .interruptIn } }
      exec (.setConfiguration rt v high wIndex wLength) s
        = .next (queuedOnEp0 [] (.zlpTx .nothing) set)
      ∧ andThen (exec (.setConfiguration rt v high wIndex wLength) s)
          (runMoves (ackRounds .ep0 1)) = pollStep3 true (delivered .ep0 [[]] set)
      ∧ (ep1Pending s = false → andThen (exec (.setConfiguration rt v high wIndex wLength) s)
          (runMoves (ackRounds .ep0 1)) = .next (polledTrue (delivered .ep0 [[]] set))))
    ∧ (∀ p : Setup, p.word &&& 0x000000000000FF00 = 0x0000000000000900 →
        ∃ rt h i l, decodeSetup Config.default p
          = .setConfiguration rt (p.wValue.extractLsb' 0 8) h i l)

/-- O33. The silent requests, the unknown request and the unknown descriptor type do nothing. R214,
R222 to R226: no reply of any kind, no state change, the POLL reports true. -/
def Obligations.SilentRequestsDoNothing : Prop :=
  ∀ (rt ty index b : Byte) (wValue wIndex wLength : Half) (s : State) (c : Config),
    (∀ i ∈ [Instr.clearFeature rt wValue wIndex wLength, .setFeature rt wValue wIndex wLength,
        .syncFrame rt wValue wIndex wLength, .setDescriptor rt wValue wIndex wLength,
        .unknownRequest rt b wValue wIndex wLength,
        .getDescriptorUnknownType rt ty index wIndex wLength],
      exec i s = pollStep3 true s
      ∧ (ep1Pending s = false → exec i s = .next (polledTrue s)))
    ∧ (∀ p : Setup,
      (p.word &&& 0x000000000000FF00 = 0x0000000000000100 →
        ∃ rt v i l, decodeSetup Config.default p = .clearFeature rt v i l)
      ∧ (p.word &&& 0x000000000000FF00 = 0x0000000000000300 →
        ∃ rt v i l, decodeSetup Config.default p = .setFeature rt v i l)
      ∧ (p.word &&& 0x000000000000FF00 = 0x0000000000000C00 →
        ∃ rt v i l, decodeSetup Config.default p = .syncFrame rt v i l)
      ∧ (p.word &&& 0x000000000000FF00 = 0x0000000000000700 →
        ∃ rt v i l, decodeSetup Config.default p = .setDescriptor rt v i l)
      ∧ (p.bRequest ∉ c.req.toList → ∃ rt b v i l, decodeSetup c p = .unknownRequest rt b v i l)
      ∧ (c.codesDistinct = true → p.bRequest = c.req.getDescriptor →
          p.wValue.extractLsb' 8 8 ∉ c.dt.toList →
          ∃ rt t x i l, decodeSetup c p = .getDescriptorUnknownType rt t x i l))

/-- O34. SendControl delivers exactly the first n bytes of its source in packets of eight, in order.
SendControl's loop (R190) run to Done. With bit 7 of `bmRequestType` clear this is what the model
sends (assumption log 13, U10). -/
def Obligations.SendControlDeliversEveryByte : Prop :=
  ∀ (src : Src) (n : Nat) (s : State), canReply s → n ≤ (srcBytes s.cfg src).length →
    andThen (sendControl src n s) (runMoves (ackRounds .ep0 (max 1 ((n + 7) / 8))))
        = pollStep3 true (delivered .ep0 (dataStagePackets ((srcBytes s.cfg src).take n)) s)
    ∧ (dataStagePackets ((srcBytes s.cfg src).take n)).length = max 1 ((n + 7) / 8)
    ∧ (dataStagePackets ((srcBytes s.cfg src).take n)).flatten = (srcBytes s.cfg src).take n
    ∧ (∀ p ∈ dataStagePackets ((srcBytes s.cfg src).take n), p.length ≤ 8)

/-- O35. A new SETUP ends a data stage at once: no chunk, no flag cleared, the abort wins over the
ack. The two abort tests of R190 and what follows them (R191). -/
def Obligations.NewSetupAbortsTheDataStage : Prop :=
  (∀ (s : State) (t : Tx), s.ep0.rxSetup = true →
      sendChunk t s = pollStep3 true s
      ∧ (s.seq = .hold (.ctlTx t) → move .engine s = pollStep3 true s)
      ∧ (s.seq = .hold (.ctlAckClr t) → s.ep0.txAcked = false → move .engine s = pollStep3 true s)
      ∧ (ep1Pending s = false → pollStep3 true s = .next (polledTrue s)))
  ∧ (∀ (s : State) (t : Tx), s.seq = .hold (.ctlTx t) → s.ep0.rxSetup = false →
      (s.ep0.txAcked = true → move .engine s = .next { s with
        ep0 := { s.ep0 with txAckedReq := .clr }, seq := .hold (.ctlAckClr t), spin := 0 })
      ∧ (s.ep0.txAcked = false → s.cfg.spinCap = none → move .engine s = .next s))

/-- O36. SEND_FRAME completes for LOOP when Idle and for CONSUMER at HP_DISPATCH, for any length.
SendFrame's start (R250) for the two invokers of R251; `spin` is the model's own counter. -/
def Obligations.SendFrameStartsForItsTwoCallers : Prop :=
  ∀ (bytes : Bytes) (s : State),
    (s.seq = .idle → exec (.sendFrame []) s = .next s)
    ∧ (s.seq = .idle → bytes ≠ [] → s.ep2.txQuiet → exec (.sendFrame bytes) s
        = .next (queuedOnEp2 (bytes.take 8) (.frmTx ⟨.bytes bytes, 0, bytes.length⟩ .loop) s))
    ∧ (∀ frame rest, s.seq = .hold (.dispatch frame rest) →
        exec (.sendFrame []) s = .next { s with spin := 0 }
        ∧ (bytes ≠ [] → s.ep2.txQuiet → exec (.sendFrame bytes) s = .next (queuedOnEp2
            (bytes.take 8) (.frmTx ⟨.bytes bytes, 0, bytes.length⟩ (.consumer frame rest)) s)))

/-- O37. SendFrame delivers exactly its bytes in packets of eight, in order, and returns to its
caller. SendFrame's loop (R250) run to its end. -/
def Obligations.SendFrameDeliversEveryByte : Prop :=
  ∀ (bytes : Bytes) (s : State), canSendFrame s →
    s.seq = .idle ∨ (∃ frame rest, s.seq = .hold (.dispatch frame rest)) →
    (∃ spin, andThen (exec (.sendFrame bytes) s) (runMoves (ackRounds .ep2 ((bytes.length + 7) / 8)))
        = .next { delivered .ep2 (packets bytes) s with spin := spin })
    ∧ (packets bytes).length = (bytes.length + 7) / 8
    ∧ (packets bytes).flatten = bytes
    ∧ (∀ p ∈ packets bytes, p ≠ [] ∧ p.length ≤ 8)

/-- O38. MalformedFrame and UnknownOpcode: where they are raised, and that nothing else changes. The
fail-stop is a next state: R301, R302 over the entry of R305. -/
def Obligations.FailStopsHaltPrecisely : Prop :=
  (∀ (s : State) (b : Bank) (rest : List Bank), s.rxCnt + s.ep1.bankCount b > 64 →
      drainBank b rest s = .next { s with
        seq := .halted .malformedFrame, history := s.history ++ [.halt .malformedFrame] })
  ∧ (∀ (s : State) (frame : Bytes) (rest : List Bank), s.seq = .hold (.dispatch frame rest) →
      frame.length ≠ 64 → move .serveFrame s = .next { s with
        seq := .halted .malformedFrame, history := s.history ++ [.halt .malformedFrame] })
  ∧ (∀ (s : State) (op e1 e2 e3 : Word) (p : Bytes) (rest : List Bank), p.length = 48 →
      s.seq = .hold (.dispatch (frameBytes op e1 e2 e3 p) rest) →
      op ∉ [s.cfg.op.deviceInfo, s.cfg.op.setupWrite, s.cfg.op.finishWrite,
        s.cfg.op.hardwareReset] →
      move .serveFrame s = .next { s with
        seq := .halted .unknownOpcode, history := s.history ++ [.halt .unknownOpcode] })
  ∧ (∀ (s : State) (frame : Bytes) (rest : List Bank) (r : Reason),
      s.seq = .hold (.dispatch frame rest) → r ≠ .handshakeStall →
      move (.consumerHalt r) s = .next { s with
        seq := .halted r, history := s.history ++ [.halt r] })
  ∧ (∀ (s : State) (frame : Bytes) (rest : List Bank), Inv s →
      s.seq = .hold (.dispatch frame rest) → frame.length = 64)

/-- O39. A hold without SPIN_CAP never ends by itself; with SPIN_CAP = k it halts after k failed
tests. R96 and U14; that a dispatch is no place of a handshake stall is R303. The counter `spin`,
0 on arrival at a hold and one per ENGINE turn, is the model's choice (assumption log 3). -/
def Obligations.SpinCapBoundsEveryHold : Prop :=
  ∀ (s : State) (h : Hold), s.seq = .hold h → holdReady h s = false →
    (s.cfg.spinCap = none → move .engine s = .next s)
    ∧ (∀ k : Nat, s.cfg.spinCap = some (k + 1) → stallable h = true → s.spin = 0 →
      runMoves (List.replicate k .engine) s = .next { s with spin := k }
      ∧ runMoves (List.replicate (k + 1) .engine) s = .next { s with
          spin := k
          seq := .halted .handshakeStall
          history := s.history ++ [.halt .handshakeStall] })

/-- O40. Only WATCHDOG's Restart leaves Halted. R52; the moves LOOP and CONSUMER lack are refused. -/
def Obligations.HaltedIsLeftOnlyByRestart : Prop :=
  ∀ (s : State) (r : Reason), s.seq = .halted r →
    (∀ t, ¬ restartNext s → step s = .next t → t.seq = .halted r)
    ∧ move .engine s = .next s
    ∧ exec .poll s = .refused .engineBusy
    ∧ (∀ bytes, exec (.sendFrame bytes) s = .refused .engineBusy)
    ∧ move .serveFrame s = .refused .notConsumersTurn
    ∧ move .consumerReturn s = .refused .notConsumersTurn
    ∧ (∀ r', move (.consumerHalt r') s = .refused .notConsumersTurn)
    ∧ ∃ t, move .restart s = .next t ∧ PowerOn t

/-- O41. BusReset only sets its flag; BusSetup delivers a SETUP and withdraws EP0's transmit side.
R270; R271 and R273 as one atomic move. -/
def Obligations.BusResetFlagsAndBusSetupDelivers : Prop :=
  (∀ s : State, move .busReset s = .next { s with busResetPending := true })
  ∧ ∀ (p : Bytes) (s : State), move (.busSetup p) s =
    if p.length = 8 ∧ s.ep0.enabled = true ∧ s.ep0.rxSetup = false ∧ s.ep0.rxSetupReq = .none then
      .next { s with ep0 := { s.ep0 with
        rxFifo0 := p, rxCount0 := 8, rxSetup := true
        txFifo := [], txTrigger := false, txAcked := false, txAckedReq := .none
        dir := false, dirReq := .none } }
    else .refused .noSuchBusMove

/-- O42. BusOut: when it exists and what it puts into the bank. R272. -/
def Obligations.BusOutFillsAFreeBank : Prop :=
  (∀ (d : Bytes) (s : State),
      (move (.busOut .b0 d) s =
        if d.length ≤ 8 ∧ s.ep1.enabled = true ∧ s.ep1.rxBank0 = false ∧ s.ep1.rxBank0Req = .none
            ∧ (s.cfg.bankFillPolicy = .alternate → s.fillNext = .b0) then
          .next { s with
            ep1 := { s.ep1 with rxFifo0 := d, rxCount0 := d.length, rxBank0 := true }
            fillNext := if s.cfg.bankFillPolicy = .alternate then .b1 else s.fillNext }
        else .refused .noSuchBusMove)
      ∧ (move (.busOut .b1 d) s =
        if d.length ≤ 8 ∧ s.ep1.enabled = true ∧ s.ep1.rxBank1 = false ∧ s.ep1.rxBank1Req = .none
            ∧ (s.cfg.bankFillPolicy = .alternate → s.fillNext = .b1) then
          .next { s with
            ep1 := { s.ep1 with rxFifo1 := d, rxCount1 := d.length, rxBank1 := true }
            fillNext := if s.cfg.bankFillPolicy = .alternate then .b0 else s.fillNext }
        else .refused .noSuchBusMove))
  ∧ State.reset.fillNext = .b0
  ∧ ∀ s : State, (restart s).fillNext = .b0 ∧ (busResetService s).fillNext = .b0

/-- O43. BusInAck: when it exists, the packet the host receives, and the flags it leaves. R274. -/
def Obligations.BusInAckTakesTheQueuedPacket : Prop :=
  ∀ s : State,
    (move (.busInAck .ep0) s =
      if s.ep0.enabled = true ∧ s.ep0.txTrigger = true ∧ s.ep0.txAcked = false
          ∧ s.ep0.txAckedReq = .none then
        .next { s with
          history := s.history ++ [.toHost .ep0 s.ep0.txFifo]
          ep0 := { s.ep0 with txFifo := [], txTrigger := false, txAcked := true } }
      else .refused .noSuchBusMove)
    ∧ (move (.busInAck .ep2) s =
      if s.ep2.enabled = true ∧ s.ep2.txTrigger = true ∧ s.ep2.txAcked = false
          ∧ s.ep2.txAckedReq = .none then
        .next { s with
          history := s.history ++ [.toHost .ep2 s.ep2.txFifo]
          ep2 := { s.ep2 with txFifo := [], txTrigger := false, txAcked := true } }
      else .refused .noSuchBusMove)

/-- O44. Reflect shows the requested value of a handshaked flag and ends the request. R275. -/
def Obligations.ReflectShowsTheDelayedWrite : Prop :=
  ∀ s : State,
    (move (.reflect .ep0Dir) s = if s.ep0.dirReq = .none then .refused .noSuchBusMove
      else .next { s with ep0 := { s.ep0 with dir := s.ep0.dirReq == .set, dirReq := .none } })
    ∧ (move (.reflect .ep0RxSetup) s = if s.ep0.rxSetupReq = .none then .refused .noSuchBusMove
      else .next { s with ep0 := { s.ep0 with
        rxSetup := s.ep0.rxSetupReq == .set, rxSetupReq := .none } })
    ∧ (move (.reflect .ep0TxAcked) s = if s.ep0.txAckedReq = .none then .refused .noSuchBusMove
      else .next { s with ep0 := { s.ep0 with
        txAcked := s.ep0.txAckedReq == .set, txAckedReq := .none } })
    ∧ (move (.reflect .ep2TxAcked) s = if s.ep2.txAckedReq = .none then .refused .noSuchBusMove
      else .next { s with ep2 := { s.ep2 with
        txAcked := s.ep2.txAckedReq == .set, txAckedReq := .none } })
    ∧ (move (.reflect (.ep1RxBank .b0)) s =
      if s.ep1.rxBank0Req = .none then .refused .noSuchBusMove
      else .next { s with ep1 := { s.ep1 with
        rxBank0 := s.ep1.rxBank0Req == .set, rxBank0Req := .none } })
    ∧ (move (.reflect (.ep1RxBank .b1)) s =
      if s.ep1.rxBank1Req = .none then .refused .noSuchBusMove
      else .next { s with ep1 := { s.ep1 with
        rxBank1 := s.ep1.rxBank1Req == .set, rxBank1Req := .none } })

/-- O45. BUS changes none of what R277 lists, and a flag with a delayed write only by its Reflect or a
BusSetup. R92: between the request and the Reflect, BUS does not itself set or clear the flag,
except `BusSetup`, which drops it. What BUS never does: R277. -/
def Obligations.BusTouchesOnlyWhatItMay : Prop :=
  (∀ (f g : Flag) (r : Req) (s : State),
      readFlag g (requestFlag f r s) = readFlag g s
      ∧ flagReq g (requestFlag f r s) = if g = f then r else flagReq g s)
  ∧ (∀ (f : Flag) (m : Move) (s t : State), flagReq f s ≠ .none → isBusMove m = true →
      m ≠ .reflect f → (∀ p, m ≠ .busSetup p) → move m s = .next t →
      readFlag f t = readFlag f s ∧ flagReq f t = flagReq f s)
  ∧ (∀ (m : Move) (s t : State), isBusMove m = true → move m s = .next t →
      t.ep0.enabled = s.ep0.enabled ∧ t.ep1.enabled = s.ep1.enabled
      ∧ t.ep2.enabled = s.ep2.enabled ∧ t.ep0.eptype = s.ep0.eptype
      ∧ t.ep1.eptype = s.ep1.eptype ∧ t.ep2.eptype = s.ep2.eptype
      ∧ t.devAddr = s.devAddr ∧ t.curCfg = s.curCfg ∧ t.link = s.link
      ∧ t.rxBuf = s.rxBuf ∧ t.rxCnt = s.rxCnt ∧ t.setup = s.setup ∧ t.crcAcc = s.crcAcc
      ∧ t.seq = s.seq ∧ t.cfg = s.cfg ∧ t.staging = s.staging ∧ t.flash = s.flash
      ∧ (s.busResetPending = true → t.busResetPending = true))

/-- O46. Each hold point waits for its condition, and only the moves R51 names make it hold. The table
of R51, over the moves of all agents. -/
def Obligations.HoldsAreLiftedOnlyByTheirMoves : Prop :=
  (∀ (s : State) (t : Tx) (a : AfterZlp) (b : Bank) (rest : List Bank) (c : Caller),
      holdReady .dir s = s.ep0.dir
      ∧ holdReady .setupClr s = !s.ep0.rxSetup
      ∧ holdReady (.ctlTx t) s = (s.ep0.rxSetup || s.ep0.txAcked)
      ∧ holdReady (.ctlAckClr t) s = !s.ep0.txAcked
      ∧ holdReady (.zlpTx a) s = s.ep0.txAcked
      ∧ holdReady (.zlpAckClr a) s = !s.ep0.txAcked
      ∧ holdReady (.rxClr b rest) s = !s.ep1.bankFlag b
      ∧ holdReady (.frmTx t c) s = s.ep2.txAcked
      ∧ holdReady (.frmAckClr t c) s = !s.ep2.txAcked)
  ∧ (∀ (s t : State) (h : Hold) (m : Move), Inv s → s.seq = .hold h → holdReady h s = false →
      move m s = .next t → t.seq = .hold h → holdReady h t = true → lifts h m)
  ∧ (∀ (s : State) (frame : Bytes) (rest : List Bank), s.seq = .hold (.dispatch frame rest) →
      move .engine s = .next s
      ∧ (∃ t, move .consumerReturn s = .next t ∧ drainBanks rest s = .next t)
      ∧ ∀ r, r ≠ .handshakeStall → ∃ t, move (.consumerHalt r) s = .next t ∧ t.seq = .halted r)
  ∧ (∀ (s t : State) (frame : Bytes) (rest : List Bank) (m : Move),
      s.seq = .hold (.dispatch frame rest) → move m s = .next t →
      t.seq = s.seq ∨ m = .consumerReturn ∨ m = .restart
      ∨ (∃ r, t.seq = .halted r ∧ (m = .consumerHalt r ∨ m = .serveFrame))
      ∨ ∃ x, t.seq = .hold (.frmTx x (.consumer frame rest)))

/-- O47. DEVICE_INFO and HARDWARE_RESET change no state and start the ACK reply. "No state change" and
"No-op placeholder", both answered (R283). -/
def Obligations.DeviceInfoAndHardwareResetOnlyReply : Prop :=
  ∀ (e1 e2 e3 : Word) (p frame : Bytes) (rest : List Bank) (s : State), p.length = 48 →
    s.seq = .hold (.dispatch frame rest) → s.ep2.txQuiet →
    ∀ i ∈ [Instr.frameDeviceInfo e1 e2 e3 p, .frameHardwareReset e1 e2 e3 p],
      exec i s = .next (queuedOnEp2 (bytes32 s.cfg.op.ack ++ bytes32 e1)
        (.frmTx ⟨.bytes (frameBytes s.cfg.op.ack e1 e2 e3 p), 0, 64⟩ (.consumer frame rest)) s)

/-- O48. SETUP_WRITE copies its payload to the staging area at word offset ext1 and starts the reply.
R283; the overrun is the model's choice (assumption log 9). -/
def Obligations.SetupWriteStagesItsPayload : Prop :=
  ∀ (e1 e2 e3 : Word) (p frame : Bytes) (rest : List Bank) (s : State), p.length = 48 →
    s.seq = .hold (.dispatch frame rest) → s.ep2.txQuiet →
    ∃ (staging : Vector Byte 256) (drawn : Nat),
      exec (.frameSetupWrite e1 e2 e3 p) s
        = .next (queuedOnEp2 (bytes32 s.cfg.op.ack ++ bytes32 e1)
          (.frmTx ⟨.bytes (frameBytes s.cfg.op.ack e1 e2 e3 p), 0, 64⟩ (.consumer frame rest))
          { s with staging := staging, freeCount := s.freeCount + drawn })
      ∧ (∀ i < 48, 4 * e1.toNat + i < 256 → staging[4 * e1.toNat + i]? = p[i]?)
      ∧ (4 * e1.toNat + 48 ≤ 256 → drawn = 0
        ∧ ∀ j, j < 4 * e1.toNat ∨ 4 * e1.toNat + 48 ≤ j → staging[j]? = s.staging[j]?)

/-- O49. FINISH_WRITE fills the last 16 staging bytes and programs the page that contains ext1. R283;
assumption logs 6 and 10. -/
def Obligations.FinishWriteProgramsThePage : Prop :=
  ∀ (e1 e2 e3 : Word) (p frame : Bytes) (rest : List Bank) (s : State), p.length = 48 →
    s.seq = .hold (.dispatch frame rest) → s.ep2.txQuiet → Memory.wf s.flash →
    ∃ (staging : Vector Byte 256) (flash : Memory),
      exec (.frameFinishWrite e1 e2 e3 p) s
        = .next (queuedOnEp2 (bytes32 s.cfg.op.ack ++ bytes32 e1)
          (.frmTx ⟨.bytes (frameBytes s.cfg.op.ack e1 e2 e3 p), 0, 64⟩ (.consumer frame rest))
          { s with staging := staging, flash := flash })
      ∧ (∀ i < 16, staging[240 + i]? = p[32 + i]?)
      ∧ (∀ j < 240, staging[j]? = s.staging[j]?)
      ∧ (∀ a : Nat, if a / 256 = e1.toNat / 256 then
          some (Memory.read flash a) = staging[a % 256]?
        else Memory.read flash a = Memory.read s.flash a)
      ∧ Memory.wf flash

/-- O50. ACK received as a command is an opcode CONSUMER does not know: the fail-stop, no reply.
R283's "Anything else", R302; R280 for the second clause. -/
def Obligations.AckFrameIsAnUnknownCommand : Prop :=
  ∀ (e1 e2 e3 : Word) (p : Bytes) (s : State),
    (∀ frame rest, s.seq = .hold (.dispatch frame rest) →
      exec (.frameAck e1 e2 e3 p) s = .next { s with
        seq := .halted .unknownOpcode, history := s.history ++ [.halt .unknownOpcode] })
    ∧ ((∀ frame rest, s.seq ≠ .hold (.dispatch frame rest)) →
      ∀ i ∈ [Instr.frameDeviceInfo e1 e2 e3 p, .frameSetupWrite e1 e2 e3 p,
        .frameFinishWrite e1 e2 e3 p, .frameHardwareReset e1 e2 e3 p, .frameAck e1 e2 e3 p],
      exec i s = .refused .notConsumersTurn)

/-- O51. The reply to any valid non-fatal command frame is the frame with only its opcode replaced.
The ACK echo law (R124). -/
def Obligations.AckEchoLaw : Prop :=
  ∀ (op e1 e2 e3 : Word) (p : Bytes) (rest : List Bank) (s : State), p.length = 48 →
    canSendFrame s →
    s.seq = .hold (.dispatch (frameBytes op e1 e2 e3 p) rest) →
    op ∈ [s.cfg.op.deviceInfo, s.cfg.op.setupWrite, s.cfg.op.finishWrite, s.cfg.op.hardwareReset] →
    ∃ (t : State) (ps : List Bytes), runMoves (.serveFrame :: ackRounds .ep2 8) s = .next t
      ∧ t.seq = .hold (.dispatch (frameBytes op e1 e2 e3 p) rest)
      ∧ t.history = s.history ++ ps.map (.toHost .ep2)
      ∧ ps.length = 8 ∧ (∀ q ∈ ps, q.length = 8)
      ∧ ps.flatten = bytes32 s.cfg.op.ack ++ (frameBytes op e1 e2 e3 p).drop 4

/-- O52. Every step from a good state leads to a good state. The invariant of the machine, over all
moves of all agents. Its `rx_cnt` clause, 64 at HP_RX_CLR of a full frame, rests on assumption log
11: it follows R243 and departs from the 63 of R24's derived sentence. -/
def Obligations.StepKeepsTheInvariant : Prop :=
  ∀ s t : State, Inv s → step s = .next t → Inv t

/-- O53. From a good state no step is stuck: no FIFO is loaded while busy, no source is read outside.
R356: "The rules never do it"; R71: "the rules of this spec never call it outside that range". -/
def Obligations.GoodStatesNeverFault : Prop :=
  ∀ (s : State) (e : Fault), Inv s → step s ≠ .fault e

/-- O54. link, cur_cfg and dev_addr change only by the events of R321, as R321 says. The complete
transition relation of `link` (R321). -/
def Obligations.LinkTransitionsAreComplete : Prop :=
  ∀ s t : State, step s = .next t →
    (t.link = s.link ∧ t.curCfg = s.curCfg ∧ t.devAddr = s.devAddr ∧ t.ep0.enabled = s.ep0.enabled
      ∧ t.ep1.enabled = s.ep1.enabled ∧ t.ep2.enabled = s.ep2.enabled)
    ∨ (busResetServiceNext s ∧ t.link = .default ∧ t.curCfg = 0 ∧ t.devAddr = 0
      ∧ t.ep0.enabled = true ∧ t.ep1.enabled = false ∧ t.ep2.enabled = false)
    ∨ (∃ a, setAddressNext a s ∧ t.devAddr = a
      ∧ t.link = (if a = 0 then .default else .addressed) ∧ t.curCfg = s.curCfg
      ∧ t.ep0.enabled = s.ep0.enabled ∧ t.ep1.enabled = s.ep1.enabled
      ∧ t.ep2.enabled = s.ep2.enabled)
    ∨ (∃ v, setConfigurationNext v s ∧ t.curCfg = v
      ∧ t.link = (if v = 0 then .addressed else .configured) ∧ t.devAddr = s.devAddr
      ∧ t.ep0.enabled = s.ep0.enabled
      ∧ t.ep1.enabled = decide (v ≠ 0) ∧ t.ep2.enabled = decide (v ≠ 0))
    ∨ (restartNext s ∧ PowerOn t)

/-- O55. cur_cfg is not 0 exactly when EP1 and EP2 are enabled, kept by every step. "authoritative for
whether EP1/EP2 are enabled" (R27). -/
def Obligations.EnablesFollowTheConfiguration : Prop :=
  (State.reset.curCfg ≠ 0 ↔ State.reset.ep1.enabled = true ∧ State.reset.ep2.enabled = true)
  ∧ (State.reset.ep1.enabled = State.reset.ep2.enabled)
  ∧ ∀ s t : State, s.ep1.enabled = s.ep2.enabled →
      (s.curCfg ≠ 0 ↔ s.ep1.enabled = true ∧ s.ep2.enabled = true) → step s = .next t →
      t.ep1.enabled = t.ep2.enabled
      ∧ (t.curCfg ≠ 0 ↔ t.ep1.enabled = true ∧ t.ep2.enabled = true)

/-- O56. Every step only appends to the history, and writes no ROM byte or other build-time parameter.
R54: a `Restart` does not erase it. R72: "Nothing writes them". -/
def Obligations.HistoryGrowsAndRomIsNeverWritten : Prop :=
  ∀ s t : State, step s = .next t → s.history <+: t.history ∧ t.cfg = s.cfg

/-- O57. Every event of the history has the cause the spec names. A frame is never dispatched with
fewer than 64 bytes (R245); a packet's bytes are exactly what the ENGINE loaded (R274); POLL's
result (R181); the failing condition of each fail-stop (R301 to R303), where the count of failed
tests is the model's (assumption log 3). -/
def Obligations.EventsHaveTheirCauses : Prop :=
  ∀ s t : State, step s = .next t → ∀ e ∈ t.history.drop s.history.length,
    causeOf e s t

/-- O58. FINISH_WRITE is the only instruction that performs a durable write. "This is the only opcode
that performs a durable write." -/
def Obligations.OnlyFinishWriteChangesFlash : Prop :=
  ∀ s t : State, step s = .next t → t.flash ≠ s.flash → finishWriteNext s

/-- O59. For an IN request no data-stage byte is loaded before dir is seen set. "this ordering is
mandatory or the data stage corrupts". -/
def Obligations.DirectionIsSetBeforeData : Prop :=
  ∀ s t : State, Inv s → step s = .next t → s.ep0.txFifo = [] → t.ep0.txFifo ≠ [] →
    directionIn t.setup.bmRequestType = true → s.ep0.dir = true

/-- O60. A withdrawn status reply, and a SEND_FRAME on a disabled EP2, stall until Restart. The stall
at HP_ZLP_TX (R357) and the handshake stall of R253. -/
def Obligations.StallsLastUntilRestart : Prop :=
  (∀ (s t : State) (a : AfterZlp) (p : Bytes), s.seq = .hold (.zlpTx a) →
      move (.busSetup p) s = .next t →
      t.seq = .hold (.zlpTx a) ∧ t.ep0.txTrigger = false ∧ t.ep0.txAcked = false
        ∧ t.ep0.txAckedReq = .none)
  ∧ (∀ (s t : State) (a : AfterZlp), s.cfg.spinCap = none → ¬ restartNext s →
      step s = .next t → s.seq = .hold (.zlpTx a) ∧ s.ep0.txTrigger = false
        ∧ s.ep0.txAcked = false ∧ s.ep0.txAckedReq = .none →
      t.seq = .hold (.zlpTx a) ∧ t.ep0.txTrigger = false ∧ t.ep0.txAcked = false
        ∧ t.ep0.txAckedReq = .none)
  ∧ (∀ (s t : State) (x : Tx) (c : Caller), s.cfg.spinCap = none → ¬ restartNext s →
      step s = .next t → s.seq = .hold (.frmTx x c) ∧ s.ep2.enabled = false
        ∧ s.ep2.txAcked = false ∧ s.ep2.txAckedReq = .none →
      t.seq = .hold (.frmTx x c) ∧ t.ep2.enabled = false
        ∧ t.ep2.txAcked = false ∧ t.ep2.txAckedReq = .none)
end

