-- ==== Sys2Proof/Laws/State.lean ====
section
/-! SUPPORT. The small lemmas of the state updates: what each update leaves in each field. -/

namespace Sys2Proof.Machine

variable (s : State)

/-! ## goto -/

@[simp] theorem goto_crcAcc (h : Hold) : (goto h s).crcAcc = s.crcAcc := rfl
@[simp] theorem goto_setup (h : Hold) : (goto h s).setup = s.setup := rfl
@[simp] theorem goto_rxBuf (h : Hold) : (goto h s).rxBuf = s.rxBuf := rfl
@[simp] theorem goto_rxCnt (h : Hold) : (goto h s).rxCnt = s.rxCnt := rfl
@[simp] theorem goto_seq (h : Hold) : (goto h s).seq = .hold h := rfl
@[simp] theorem goto_link (h : Hold) : (goto h s).link = s.link := rfl
@[simp] theorem goto_curCfg (h : Hold) : (goto h s).curCfg = s.curCfg := rfl
@[simp] theorem goto_devAddr (h : Hold) : (goto h s).devAddr = s.devAddr := rfl
@[simp] theorem goto_busResetPending (h : Hold) : (goto h s).busResetPending = s.busResetPending := rfl
@[simp] theorem goto_ep0 (h : Hold) : (goto h s).ep0 = s.ep0 := rfl
@[simp] theorem goto_ep1 (h : Hold) : (goto h s).ep1 = s.ep1 := rfl
@[simp] theorem goto_ep2 (h : Hold) : (goto h s).ep2 = s.ep2 := rfl
@[simp] theorem goto_fillNext (h : Hold) : (goto h s).fillNext = s.fillNext := rfl
@[simp] theorem goto_spin (h : Hold) : (goto h s).spin = 0 := rfl
@[simp] theorem goto_history (h : Hold) : (goto h s).history = s.history := rfl
@[simp] theorem goto_cfg (h : Hold) : (goto h s).cfg = s.cfg := rfl
@[simp] theorem goto_staging (h : Hold) : (goto h s).staging = s.staging := rfl
@[simp] theorem goto_flash (h : Hold) : (goto h s).flash = s.flash := rfl
@[simp] theorem goto_script (h : Hold) : (goto h s).script = s.script := rfl
@[simp] theorem goto_freeCount (h : Hold) : (goto h s).freeCount = s.freeCount := rfl

/-! ## emit -/

@[simp] theorem emit_crcAcc (e : Event) : (emit e s).crcAcc = s.crcAcc := rfl
@[simp] theorem emit_setup (e : Event) : (emit e s).setup = s.setup := rfl
@[simp] theorem emit_rxBuf (e : Event) : (emit e s).rxBuf = s.rxBuf := rfl
@[simp] theorem emit_rxCnt (e : Event) : (emit e s).rxCnt = s.rxCnt := rfl
@[simp] theorem emit_seq (e : Event) : (emit e s).seq = s.seq := rfl
@[simp] theorem emit_link (e : Event) : (emit e s).link = s.link := rfl
@[simp] theorem emit_curCfg (e : Event) : (emit e s).curCfg = s.curCfg := rfl
@[simp] theorem emit_devAddr (e : Event) : (emit e s).devAddr = s.devAddr := rfl
@[simp] theorem emit_busResetPending (e : Event) : (emit e s).busResetPending = s.busResetPending := rfl
@[simp] theorem emit_ep0 (e : Event) : (emit e s).ep0 = s.ep0 := rfl
@[simp] theorem emit_ep1 (e : Event) : (emit e s).ep1 = s.ep1 := rfl
@[simp] theorem emit_ep2 (e : Event) : (emit e s).ep2 = s.ep2 := rfl
@[simp] theorem emit_fillNext (e : Event) : (emit e s).fillNext = s.fillNext := rfl
@[simp] theorem emit_spin (e : Event) : (emit e s).spin = s.spin := rfl
@[simp] theorem emit_history (e : Event) : (emit e s).history = s.history ++ [e] := rfl
@[simp] theorem emit_cfg (e : Event) : (emit e s).cfg = s.cfg := rfl
@[simp] theorem emit_staging (e : Event) : (emit e s).staging = s.staging := rfl
@[simp] theorem emit_flash (e : Event) : (emit e s).flash = s.flash := rfl
@[simp] theorem emit_script (e : Event) : (emit e s).script = s.script := rfl
@[simp] theorem emit_freeCount (e : Event) : (emit e s).freeCount = s.freeCount := rfl

/-! ## halt -/

@[simp] theorem halt_crcAcc (r : Reason) : (halt r s).crcAcc = s.crcAcc := rfl
@[simp] theorem halt_setup (r : Reason) : (halt r s).setup = s.setup := rfl
@[simp] theorem halt_rxBuf (r : Reason) : (halt r s).rxBuf = s.rxBuf := rfl
@[simp] theorem halt_rxCnt (r : Reason) : (halt r s).rxCnt = s.rxCnt := rfl
@[simp] theorem halt_seq (r : Reason) : (halt r s).seq = .halted r := rfl
@[simp] theorem halt_link (r : Reason) : (halt r s).link = s.link := rfl
@[simp] theorem halt_curCfg (r : Reason) : (halt r s).curCfg = s.curCfg := rfl
@[simp] theorem halt_devAddr (r : Reason) : (halt r s).devAddr = s.devAddr := rfl
@[simp] theorem halt_busResetPending (r : Reason) : (halt r s).busResetPending = s.busResetPending := rfl
@[simp] theorem halt_ep0 (r : Reason) : (halt r s).ep0 = s.ep0 := rfl
@[simp] theorem halt_ep1 (r : Reason) : (halt r s).ep1 = s.ep1 := rfl
@[simp] theorem halt_ep2 (r : Reason) : (halt r s).ep2 = s.ep2 := rfl
@[simp] theorem halt_fillNext (r : Reason) : (halt r s).fillNext = s.fillNext := rfl
@[simp] theorem halt_spin (r : Reason) : (halt r s).spin = s.spin := rfl
@[simp] theorem halt_history (r : Reason) : (halt r s).history = s.history ++ [.halt r] := rfl
@[simp] theorem halt_cfg (r : Reason) : (halt r s).cfg = s.cfg := rfl
@[simp] theorem halt_staging (r : Reason) : (halt r s).staging = s.staging := rfl
@[simp] theorem halt_flash (r : Reason) : (halt r s).flash = s.flash := rfl
@[simp] theorem halt_script (r : Reason) : (halt r s).script = s.script := rfl
@[simp] theorem halt_freeCount (r : Reason) : (halt r s).freeCount = s.freeCount := rfl

/-! ## pollReturn -/

@[simp] theorem pollReturn_crcAcc (b : Bool) : (pollReturn b s).crcAcc = s.crcAcc := rfl
@[simp] theorem pollReturn_setup (b : Bool) : (pollReturn b s).setup = s.setup := rfl
@[simp] theorem pollReturn_rxBuf (b : Bool) : (pollReturn b s).rxBuf = s.rxBuf := rfl
@[simp] theorem pollReturn_rxCnt (b : Bool) : (pollReturn b s).rxCnt = s.rxCnt := rfl
@[simp] theorem pollReturn_seq (b : Bool) : (pollReturn b s).seq = .idle := rfl
@[simp] theorem pollReturn_link (b : Bool) : (pollReturn b s).link = s.link := rfl
@[simp] theorem pollReturn_curCfg (b : Bool) : (pollReturn b s).curCfg = s.curCfg := rfl
@[simp] theorem pollReturn_devAddr (b : Bool) : (pollReturn b s).devAddr = s.devAddr := rfl
@[simp] theorem pollReturn_busResetPending (b : Bool) : (pollReturn b s).busResetPending = s.busResetPending := rfl
@[simp] theorem pollReturn_ep0 (b : Bool) : (pollReturn b s).ep0 = s.ep0 := rfl
@[simp] theorem pollReturn_ep1 (b : Bool) : (pollReturn b s).ep1 = s.ep1 := rfl
@[simp] theorem pollReturn_ep2 (b : Bool) : (pollReturn b s).ep2 = s.ep2 := rfl
@[simp] theorem pollReturn_fillNext (b : Bool) : (pollReturn b s).fillNext = s.fillNext := rfl
@[simp] theorem pollReturn_spin (b : Bool) : (pollReturn b s).spin = s.spin := rfl
@[simp] theorem pollReturn_history (b : Bool) : (pollReturn b s).history = s.history ++ [.pollReturn b] := rfl
@[simp] theorem pollReturn_cfg (b : Bool) : (pollReturn b s).cfg = s.cfg := rfl
@[simp] theorem pollReturn_staging (b : Bool) : (pollReturn b s).staging = s.staging := rfl
@[simp] theorem pollReturn_flash (b : Bool) : (pollReturn b s).flash = s.flash := rfl
@[simp] theorem pollReturn_script (b : Bool) : (pollReturn b s).script = s.script := rfl
@[simp] theorem pollReturn_freeCount (b : Bool) : (pollReturn b s).freeCount = s.freeCount := rfl

/-! ## requestFlag -/

@[simp] theorem requestFlag_crcAcc (f : Flag) (r : Req) : (requestFlag f r s).crcAcc = s.crcAcc := by cases f <;> rfl
@[simp] theorem requestFlag_setup (f : Flag) (r : Req) : (requestFlag f r s).setup = s.setup := by cases f <;> rfl
@[simp] theorem requestFlag_rxBuf (f : Flag) (r : Req) : (requestFlag f r s).rxBuf = s.rxBuf := by cases f <;> rfl
@[simp] theorem requestFlag_rxCnt (f : Flag) (r : Req) : (requestFlag f r s).rxCnt = s.rxCnt := by cases f <;> rfl
@[simp] theorem requestFlag_seq (f : Flag) (r : Req) : (requestFlag f r s).seq = s.seq := by cases f <;> rfl
@[simp] theorem requestFlag_link (f : Flag) (r : Req) : (requestFlag f r s).link = s.link := by cases f <;> rfl
@[simp] theorem requestFlag_curCfg (f : Flag) (r : Req) : (requestFlag f r s).curCfg = s.curCfg := by cases f <;> rfl
@[simp] theorem requestFlag_devAddr (f : Flag) (r : Req) : (requestFlag f r s).devAddr = s.devAddr := by cases f <;> rfl
@[simp] theorem requestFlag_busResetPending (f : Flag) (r : Req) : (requestFlag f r s).busResetPending = s.busResetPending := by cases f <;> rfl
@[simp] theorem requestFlag_fillNext (f : Flag) (r : Req) : (requestFlag f r s).fillNext = s.fillNext := by cases f <;> rfl
@[simp] theorem requestFlag_spin (f : Flag) (r : Req) : (requestFlag f r s).spin = s.spin := by cases f <;> rfl
@[simp] theorem requestFlag_history (f : Flag) (r : Req) : (requestFlag f r s).history = s.history := by cases f <;> rfl
@[simp] theorem requestFlag_cfg (f : Flag) (r : Req) : (requestFlag f r s).cfg = s.cfg := by cases f <;> rfl
@[simp] theorem requestFlag_staging (f : Flag) (r : Req) : (requestFlag f r s).staging = s.staging := by cases f <;> rfl
@[simp] theorem requestFlag_flash (f : Flag) (r : Req) : (requestFlag f r s).flash = s.flash := by cases f <;> rfl
@[simp] theorem requestFlag_script (f : Flag) (r : Req) : (requestFlag f r s).script = s.script := by cases f <;> rfl
@[simp] theorem requestFlag_freeCount (f : Flag) (r : Req) : (requestFlag f r s).freeCount = s.freeCount := by cases f <;> rfl

/-! ## showFlag -/

@[simp] theorem showFlag_crcAcc (f : Flag) (v : Bool) : (showFlag f v s).crcAcc = s.crcAcc := by cases f <;> rfl
@[simp] theorem showFlag_setup (f : Flag) (v : Bool) : (showFlag f v s).setup = s.setup := by cases f <;> rfl
@[simp] theorem showFlag_rxBuf (f : Flag) (v : Bool) : (showFlag f v s).rxBuf = s.rxBuf := by cases f <;> rfl
@[simp] theorem showFlag_rxCnt (f : Flag) (v : Bool) : (showFlag f v s).rxCnt = s.rxCnt := by cases f <;> rfl
@[simp] theorem showFlag_seq (f : Flag) (v : Bool) : (showFlag f v s).seq = s.seq := by cases f <;> rfl
@[simp] theorem showFlag_link (f : Flag) (v : Bool) : (showFlag f v s).link = s.link := by cases f <;> rfl
@[simp] theorem showFlag_curCfg (f : Flag) (v : Bool) : (showFlag f v s).curCfg = s.curCfg := by cases f <;> rfl
@[simp] theorem showFlag_devAddr (f : Flag) (v : Bool) : (showFlag f v s).devAddr = s.devAddr := by cases f <;> rfl
@[simp] theorem showFlag_busResetPending (f : Flag) (v : Bool) : (showFlag f v s).busResetPending = s.busResetPending := by cases f <;> rfl
@[simp] theorem showFlag_fillNext (f : Flag) (v : Bool) : (showFlag f v s).fillNext = s.fillNext := by cases f <;> rfl
@[simp] theorem showFlag_spin (f : Flag) (v : Bool) : (showFlag f v s).spin = s.spin := by cases f <;> rfl
@[simp] theorem showFlag_history (f : Flag) (v : Bool) : (showFlag f v s).history = s.history := by cases f <;> rfl
@[simp] theorem showFlag_cfg (f : Flag) (v : Bool) : (showFlag f v s).cfg = s.cfg := by cases f <;> rfl
@[simp] theorem showFlag_staging (f : Flag) (v : Bool) : (showFlag f v s).staging = s.staging := by cases f <;> rfl
@[simp] theorem showFlag_flash (f : Flag) (v : Bool) : (showFlag f v s).flash = s.flash := by cases f <;> rfl
@[simp] theorem showFlag_script (f : Flag) (v : Bool) : (showFlag f v s).script = s.script := by cases f <;> rfl
@[simp] theorem showFlag_freeCount (f : Flag) (v : Bool) : (showFlag f v s).freeCount = s.freeCount := by cases f <;> rfl

/-! ## setTxEndpoint -/

@[simp] theorem setTxEndpoint_crcAcc (n : TxEp) (e : Endpoint) : (setTxEndpoint n e s).crcAcc = s.crcAcc := by cases n <;> rfl
@[simp] theorem setTxEndpoint_setup (n : TxEp) (e : Endpoint) : (setTxEndpoint n e s).setup = s.setup := by cases n <;> rfl
@[simp] theorem setTxEndpoint_rxBuf (n : TxEp) (e : Endpoint) : (setTxEndpoint n e s).rxBuf = s.rxBuf := by cases n <;> rfl
@[simp] theorem setTxEndpoint_rxCnt (n : TxEp) (e : Endpoint) : (setTxEndpoint n e s).rxCnt = s.rxCnt := by cases n <;> rfl
@[simp] theorem setTxEndpoint_seq (n : TxEp) (e : Endpoint) : (setTxEndpoint n e s).seq = s.seq := by cases n <;> rfl
@[simp] theorem setTxEndpoint_link (n : TxEp) (e : Endpoint) : (setTxEndpoint n e s).link = s.link := by cases n <;> rfl
@[simp] theorem setTxEndpoint_curCfg (n : TxEp) (e : Endpoint) : (setTxEndpoint n e s).curCfg = s.curCfg := by cases n <;> rfl
@[simp] theorem setTxEndpoint_devAddr (n : TxEp) (e : Endpoint) : (setTxEndpoint n e s).devAddr = s.devAddr := by cases n <;> rfl
@[simp] theorem setTxEndpoint_busResetPending (n : TxEp) (e : Endpoint) : (setTxEndpoint n e s).busResetPending = s.busResetPending := by cases n <;> rfl
@[simp] theorem setTxEndpoint_ep1 (n : TxEp) (e : Endpoint) : (setTxEndpoint n e s).ep1 = s.ep1 := by cases n <;> rfl
@[simp] theorem setTxEndpoint_fillNext (n : TxEp) (e : Endpoint) : (setTxEndpoint n e s).fillNext = s.fillNext := by cases n <;> rfl
@[simp] theorem setTxEndpoint_spin (n : TxEp) (e : Endpoint) : (setTxEndpoint n e s).spin = s.spin := by cases n <;> rfl
@[simp] theorem setTxEndpoint_history (n : TxEp) (e : Endpoint) : (setTxEndpoint n e s).history = s.history := by cases n <;> rfl
@[simp] theorem setTxEndpoint_cfg (n : TxEp) (e : Endpoint) : (setTxEndpoint n e s).cfg = s.cfg := by cases n <;> rfl
@[simp] theorem setTxEndpoint_staging (n : TxEp) (e : Endpoint) : (setTxEndpoint n e s).staging = s.staging := by cases n <;> rfl
@[simp] theorem setTxEndpoint_flash (n : TxEp) (e : Endpoint) : (setTxEndpoint n e s).flash = s.flash := by cases n <;> rfl
@[simp] theorem setTxEndpoint_script (n : TxEp) (e : Endpoint) : (setTxEndpoint n e s).script = s.script := by cases n <;> rfl
@[simp] theorem setTxEndpoint_freeCount (n : TxEp) (e : Endpoint) : (setTxEndpoint n e s).freeCount = s.freeCount := by cases n <;> rfl

/-! ## trigger -/

@[simp] theorem trigger_crcAcc (n : TxEp) : (trigger n s).crcAcc = s.crcAcc := by cases n <;> rfl
@[simp] theorem trigger_setup (n : TxEp) : (trigger n s).setup = s.setup := by cases n <;> rfl
@[simp] theorem trigger_rxBuf (n : TxEp) : (trigger n s).rxBuf = s.rxBuf := by cases n <;> rfl
@[simp] theorem trigger_rxCnt (n : TxEp) : (trigger n s).rxCnt = s.rxCnt := by cases n <;> rfl
@[simp] theorem trigger_seq (n : TxEp) : (trigger n s).seq = s.seq := by cases n <;> rfl
@[simp] theorem trigger_link (n : TxEp) : (trigger n s).link = s.link := by cases n <;> rfl
@[simp] theorem trigger_curCfg (n : TxEp) : (trigger n s).curCfg = s.curCfg := by cases n <;> rfl
@[simp] theorem trigger_devAddr (n : TxEp) : (trigger n s).devAddr = s.devAddr := by cases n <;> rfl
@[simp] theorem trigger_busResetPending (n : TxEp) : (trigger n s).busResetPending = s.busResetPending := by cases n <;> rfl
@[simp] theorem trigger_ep1 (n : TxEp) : (trigger n s).ep1 = s.ep1 := by cases n <;> rfl
@[simp] theorem trigger_fillNext (n : TxEp) : (trigger n s).fillNext = s.fillNext := by cases n <;> rfl
@[simp] theorem trigger_spin (n : TxEp) : (trigger n s).spin = s.spin := by cases n <;> rfl
@[simp] theorem trigger_history (n : TxEp) : (trigger n s).history = s.history := by cases n <;> rfl
@[simp] theorem trigger_cfg (n : TxEp) : (trigger n s).cfg = s.cfg := by cases n <;> rfl
@[simp] theorem trigger_staging (n : TxEp) : (trigger n s).staging = s.staging := by cases n <;> rfl
@[simp] theorem trigger_flash (n : TxEp) : (trigger n s).flash = s.flash := by cases n <;> rfl
@[simp] theorem trigger_script (n : TxEp) : (trigger n s).script = s.script := by cases n <;> rfl
@[simp] theorem trigger_freeCount (n : TxEp) : (trigger n s).freeCount = s.freeCount := by cases n <;> rfl

/-! ## appendBank -/

@[simp] theorem appendBank_crcAcc (b : Bank) : (appendBank b s).crcAcc = s.crcAcc := rfl
@[simp] theorem appendBank_setup (b : Bank) : (appendBank b s).setup = s.setup := rfl
@[simp] theorem appendBank_rxCnt (b : Bank) : (appendBank b s).rxCnt = s.rxCnt + s.ep1.bankCount b := rfl
@[simp] theorem appendBank_seq (b : Bank) : (appendBank b s).seq = s.seq := rfl
@[simp] theorem appendBank_link (b : Bank) : (appendBank b s).link = s.link := rfl
@[simp] theorem appendBank_curCfg (b : Bank) : (appendBank b s).curCfg = s.curCfg := rfl
@[simp] theorem appendBank_devAddr (b : Bank) : (appendBank b s).devAddr = s.devAddr := rfl
@[simp] theorem appendBank_busResetPending (b : Bank) : (appendBank b s).busResetPending = s.busResetPending := rfl
@[simp] theorem appendBank_ep0 (b : Bank) : (appendBank b s).ep0 = s.ep0 := rfl
@[simp] theorem appendBank_ep2 (b : Bank) : (appendBank b s).ep2 = s.ep2 := rfl
@[simp] theorem appendBank_fillNext (b : Bank) : (appendBank b s).fillNext = s.fillNext := rfl
@[simp] theorem appendBank_spin (b : Bank) : (appendBank b s).spin = s.spin := rfl
@[simp] theorem appendBank_history (b : Bank) : (appendBank b s).history = s.history := rfl
@[simp] theorem appendBank_cfg (b : Bank) : (appendBank b s).cfg = s.cfg := rfl
@[simp] theorem appendBank_staging (b : Bank) : (appendBank b s).staging = s.staging := rfl
@[simp] theorem appendBank_flash (b : Bank) : (appendBank b s).flash = s.flash := rfl
@[simp] theorem appendBank_script (b : Bank) : (appendBank b s).script = s.script := rfl

/-! ## dispatchFrame -/

@[simp] theorem dispatchFrame_crcAcc (rest : List Bank) : (dispatchFrame rest s).crcAcc = s.crcAcc := rfl
@[simp] theorem dispatchFrame_setup (rest : List Bank) : (dispatchFrame rest s).setup = s.setup := rfl
@[simp] theorem dispatchFrame_rxBuf (rest : List Bank) : (dispatchFrame rest s).rxBuf = s.rxBuf := rfl
@[simp] theorem dispatchFrame_rxCnt (rest : List Bank) : (dispatchFrame rest s).rxCnt = 0 := rfl
@[simp] theorem dispatchFrame_seq (rest : List Bank) : (dispatchFrame rest s).seq = .hold (.dispatch s.rxBuf.toList rest) := rfl
@[simp] theorem dispatchFrame_link (rest : List Bank) : (dispatchFrame rest s).link = s.link := rfl
@[simp] theorem dispatchFrame_curCfg (rest : List Bank) : (dispatchFrame rest s).curCfg = s.curCfg := rfl
@[simp] theorem dispatchFrame_devAddr (rest : List Bank) : (dispatchFrame rest s).devAddr = s.devAddr := rfl
@[simp] theorem dispatchFrame_busResetPending (rest : List Bank) : (dispatchFrame rest s).busResetPending = s.busResetPending := rfl
@[simp] theorem dispatchFrame_ep0 (rest : List Bank) : (dispatchFrame rest s).ep0 = s.ep0 := rfl
@[simp] theorem dispatchFrame_ep1 (rest : List Bank) : (dispatchFrame rest s).ep1 = s.ep1 := rfl
@[simp] theorem dispatchFrame_ep2 (rest : List Bank) : (dispatchFrame rest s).ep2 = s.ep2 := rfl
@[simp] theorem dispatchFrame_fillNext (rest : List Bank) : (dispatchFrame rest s).fillNext = s.fillNext := rfl
@[simp] theorem dispatchFrame_spin (rest : List Bank) : (dispatchFrame rest s).spin = 0 := rfl
@[simp] theorem dispatchFrame_history (rest : List Bank) : (dispatchFrame rest s).history = s.history ++ [.dispatch s.rxBuf.toList] := rfl
@[simp] theorem dispatchFrame_cfg (rest : List Bank) : (dispatchFrame rest s).cfg = s.cfg := rfl
@[simp] theorem dispatchFrame_staging (rest : List Bank) : (dispatchFrame rest s).staging = s.staging := rfl
@[simp] theorem dispatchFrame_flash (rest : List Bank) : (dispatchFrame rest s).flash = s.flash := rfl
@[simp] theorem dispatchFrame_script (rest : List Bank) : (dispatchFrame rest s).script = s.script := rfl
@[simp] theorem dispatchFrame_freeCount (rest : List Bank) : (dispatchFrame rest s).freeCount = s.freeCount := rfl

/-! ## programAddress -/

@[simp] theorem programAddress_crcAcc (a : BitVec 7) : (programAddress a s).crcAcc = s.crcAcc := rfl
@[simp] theorem programAddress_setup (a : BitVec 7) : (programAddress a s).setup = s.setup := rfl
@[simp] theorem programAddress_rxBuf (a : BitVec 7) : (programAddress a s).rxBuf = s.rxBuf := rfl
@[simp] theorem programAddress_rxCnt (a : BitVec 7) : (programAddress a s).rxCnt = s.rxCnt := rfl
@[simp] theorem programAddress_seq (a : BitVec 7) : (programAddress a s).seq = s.seq := rfl
@[simp] theorem programAddress_link (a : BitVec 7) : (programAddress a s).link = if a = 0 then .default else .addressed := rfl
@[simp] theorem programAddress_curCfg (a : BitVec 7) : (programAddress a s).curCfg = s.curCfg := rfl
@[simp] theorem programAddress_devAddr (a : BitVec 7) : (programAddress a s).devAddr = a := rfl
@[simp] theorem programAddress_busResetPending (a : BitVec 7) : (programAddress a s).busResetPending = s.busResetPending := rfl
@[simp] theorem programAddress_ep0 (a : BitVec 7) : (programAddress a s).ep0 = s.ep0 := rfl
@[simp] theorem programAddress_ep1 (a : BitVec 7) : (programAddress a s).ep1 = s.ep1 := rfl
@[simp] theorem programAddress_ep2 (a : BitVec 7) : (programAddress a s).ep2 = s.ep2 := rfl
@[simp] theorem programAddress_fillNext (a : BitVec 7) : (programAddress a s).fillNext = s.fillNext := rfl
@[simp] theorem programAddress_spin (a : BitVec 7) : (programAddress a s).spin = s.spin := rfl
@[simp] theorem programAddress_history (a : BitVec 7) : (programAddress a s).history = s.history := rfl
@[simp] theorem programAddress_cfg (a : BitVec 7) : (programAddress a s).cfg = s.cfg := rfl
@[simp] theorem programAddress_staging (a : BitVec 7) : (programAddress a s).staging = s.staging := rfl
@[simp] theorem programAddress_flash (a : BitVec 7) : (programAddress a s).flash = s.flash := rfl
@[simp] theorem programAddress_script (a : BitVec 7) : (programAddress a s).script = s.script := rfl
@[simp] theorem programAddress_freeCount (a : BitVec 7) : (programAddress a s).freeCount = s.freeCount := rfl

/-! ## busReset -/

@[simp] theorem busReset_crcAcc : (busReset s).crcAcc = s.crcAcc := rfl
@[simp] theorem busReset_setup : (busReset s).setup = s.setup := rfl
@[simp] theorem busReset_rxBuf : (busReset s).rxBuf = s.rxBuf := rfl
@[simp] theorem busReset_rxCnt : (busReset s).rxCnt = s.rxCnt := rfl
@[simp] theorem busReset_seq : (busReset s).seq = s.seq := rfl
@[simp] theorem busReset_link : (busReset s).link = s.link := rfl
@[simp] theorem busReset_curCfg : (busReset s).curCfg = s.curCfg := rfl
@[simp] theorem busReset_devAddr : (busReset s).devAddr = s.devAddr := rfl
@[simp] theorem busReset_busResetPending : (busReset s).busResetPending = true := rfl
@[simp] theorem busReset_ep0 : (busReset s).ep0 = s.ep0 := rfl
@[simp] theorem busReset_ep1 : (busReset s).ep1 = s.ep1 := rfl
@[simp] theorem busReset_ep2 : (busReset s).ep2 = s.ep2 := rfl
@[simp] theorem busReset_fillNext : (busReset s).fillNext = s.fillNext := rfl
@[simp] theorem busReset_spin : (busReset s).spin = s.spin := rfl
@[simp] theorem busReset_history : (busReset s).history = s.history := rfl
@[simp] theorem busReset_cfg : (busReset s).cfg = s.cfg := rfl
@[simp] theorem busReset_staging : (busReset s).staging = s.staging := rfl
@[simp] theorem busReset_flash : (busReset s).flash = s.flash := rfl
@[simp] theorem busReset_script : (busReset s).script = s.script := rfl
@[simp] theorem busReset_freeCount : (busReset s).freeCount = s.freeCount := rfl

/-! ## busResetService -/

@[simp] theorem busResetService_crcAcc : (busResetService s).crcAcc = s.crcAcc := rfl
@[simp] theorem busResetService_setup : (busResetService s).setup = s.setup := rfl
@[simp] theorem busResetService_rxBuf : (busResetService s).rxBuf = s.rxBuf := rfl
@[simp] theorem busResetService_rxCnt : (busResetService s).rxCnt = s.rxCnt := rfl
@[simp] theorem busResetService_seq : (busResetService s).seq = s.seq := rfl
@[simp] theorem busResetService_link : (busResetService s).link = .default := rfl
@[simp] theorem busResetService_curCfg : (busResetService s).curCfg = 0 := rfl
@[simp] theorem busResetService_devAddr : (busResetService s).devAddr = 0 := rfl
@[simp] theorem busResetService_busResetPending : (busResetService s).busResetPending = false := rfl
@[simp] theorem busResetService_ep0 : (busResetService s).ep0 = { Endpoint.reset with enabled := true, eptype := .control } := rfl
@[simp] theorem busResetService_ep1 : (busResetService s).ep1 = { Endpoint.reset with eptype := s.ep1.eptype } := rfl
@[simp] theorem busResetService_ep2 : (busResetService s).ep2 = { Endpoint.reset with eptype := s.ep2.eptype } := rfl
@[simp] theorem busResetService_fillNext : (busResetService s).fillNext = .b0 := rfl
@[simp] theorem busResetService_spin : (busResetService s).spin = s.spin := rfl
@[simp] theorem busResetService_history : (busResetService s).history = s.history := rfl
@[simp] theorem busResetService_cfg : (busResetService s).cfg = s.cfg := rfl
@[simp] theorem busResetService_staging : (busResetService s).staging = s.staging := rfl
@[simp] theorem busResetService_flash : (busResetService s).flash = s.flash := rfl
@[simp] theorem busResetService_script : (busResetService s).script = s.script := rfl
@[simp] theorem busResetService_freeCount : (busResetService s).freeCount = s.freeCount := rfl

/-! ## applyConfiguration -/

@[simp] theorem applyConfiguration_crcAcc (v : Byte) : (applyConfiguration v s).crcAcc = s.crcAcc := by unfold applyConfiguration; split <;> rfl
@[simp] theorem applyConfiguration_setup (v : Byte) : (applyConfiguration v s).setup = s.setup := by unfold applyConfiguration; split <;> rfl
@[simp] theorem applyConfiguration_rxBuf (v : Byte) : (applyConfiguration v s).rxBuf = s.rxBuf := by unfold applyConfiguration; split <;> rfl
@[simp] theorem applyConfiguration_rxCnt (v : Byte) : (applyConfiguration v s).rxCnt = s.rxCnt := by unfold applyConfiguration; split <;> rfl
@[simp] theorem applyConfiguration_seq (v : Byte) : (applyConfiguration v s).seq = s.seq := by unfold applyConfiguration; split <;> rfl
@[simp] theorem applyConfiguration_curCfg (v : Byte) : (applyConfiguration v s).curCfg = v := by unfold applyConfiguration; split <;> rfl
@[simp] theorem applyConfiguration_devAddr (v : Byte) : (applyConfiguration v s).devAddr = s.devAddr := by unfold applyConfiguration; split <;> rfl
@[simp] theorem applyConfiguration_busResetPending (v : Byte) : (applyConfiguration v s).busResetPending = s.busResetPending := by unfold applyConfiguration; split <;> rfl
@[simp] theorem applyConfiguration_ep0 (v : Byte) : (applyConfiguration v s).ep0 = s.ep0 := by unfold applyConfiguration; split <;> rfl
@[simp] theorem applyConfiguration_fillNext (v : Byte) : (applyConfiguration v s).fillNext = s.fillNext := by unfold applyConfiguration; split <;> rfl
@[simp] theorem applyConfiguration_spin (v : Byte) : (applyConfiguration v s).spin = s.spin := by unfold applyConfiguration; split <;> rfl
@[simp] theorem applyConfiguration_history (v : Byte) : (applyConfiguration v s).history = s.history := by unfold applyConfiguration; split <;> rfl
@[simp] theorem applyConfiguration_cfg (v : Byte) : (applyConfiguration v s).cfg = s.cfg := by unfold applyConfiguration; split <;> rfl
@[simp] theorem applyConfiguration_staging (v : Byte) : (applyConfiguration v s).staging = s.staging := by unfold applyConfiguration; split <;> rfl
@[simp] theorem applyConfiguration_flash (v : Byte) : (applyConfiguration v s).flash = s.flash := by unfold applyConfiguration; split <;> rfl
@[simp] theorem applyConfiguration_script (v : Byte) : (applyConfiguration v s).script = s.script := by unfold applyConfiguration; split <;> rfl
@[simp] theorem applyConfiguration_freeCount (v : Byte) : (applyConfiguration v s).freeCount = s.freeCount := by unfold applyConfiguration; split <;> rfl

/-! ## Endpoints of flags and transmitters -/

@[simp] theorem requestFlag_ep0Dir_ep0 (r : Req) :
    (requestFlag .ep0Dir r s).ep0 = { s.ep0 with dirReq := r } := rfl
@[simp] theorem requestFlag_ep0Dir_ep1 (r : Req) : (requestFlag .ep0Dir r s).ep1 = s.ep1 := rfl
@[simp] theorem requestFlag_ep0Dir_ep2 (r : Req) : (requestFlag .ep0Dir r s).ep2 = s.ep2 := rfl
@[simp] theorem requestFlag_ep0RxSetup_ep0 (r : Req) :
    (requestFlag .ep0RxSetup r s).ep0 = { s.ep0 with rxSetupReq := r } := rfl
@[simp] theorem requestFlag_ep0RxSetup_ep1 (r : Req) :
    (requestFlag .ep0RxSetup r s).ep1 = s.ep1 := rfl
@[simp] theorem requestFlag_ep0RxSetup_ep2 (r : Req) :
    (requestFlag .ep0RxSetup r s).ep2 = s.ep2 := rfl
@[simp] theorem requestFlag_ep0TxAcked_ep0 (r : Req) :
    (requestFlag .ep0TxAcked r s).ep0 = { s.ep0 with txAckedReq := r } := rfl
@[simp] theorem requestFlag_ep0TxAcked_ep1 (r : Req) :
    (requestFlag .ep0TxAcked r s).ep1 = s.ep1 := rfl
@[simp] theorem requestFlag_ep0TxAcked_ep2 (r : Req) :
    (requestFlag .ep0TxAcked r s).ep2 = s.ep2 := rfl
@[simp] theorem requestFlag_ep2TxAcked_ep0 (r : Req) :
    (requestFlag .ep2TxAcked r s).ep0 = s.ep0 := rfl
@[simp] theorem requestFlag_ep2TxAcked_ep1 (r : Req) :
    (requestFlag .ep2TxAcked r s).ep1 = s.ep1 := rfl
@[simp] theorem requestFlag_ep2TxAcked_ep2 (r : Req) :
    (requestFlag .ep2TxAcked r s).ep2 = { s.ep2 with txAckedReq := r } := rfl
@[simp] theorem requestFlag_ep1RxBank_ep0 (b : Bank) (r : Req) :
    (requestFlag (.ep1RxBank b) r s).ep0 = s.ep0 := rfl
@[simp] theorem requestFlag_ep1RxBank_ep1 (b : Bank) (r : Req) :
    (requestFlag (.ep1RxBank b) r s).ep1 = s.ep1.setBankReq b r := rfl
@[simp] theorem requestFlag_ep1RxBank_ep2 (b : Bank) (r : Req) :
    (requestFlag (.ep1RxBank b) r s).ep2 = s.ep2 := rfl
@[simp] theorem setTxEndpoint_ep0_ep0 (e : Endpoint) : (setTxEndpoint .ep0 e s).ep0 = e := rfl
@[simp] theorem setTxEndpoint_ep0_ep2 (e : Endpoint) : (setTxEndpoint .ep0 e s).ep2 = s.ep2 := rfl
@[simp] theorem setTxEndpoint_ep2_ep0 (e : Endpoint) : (setTxEndpoint .ep2 e s).ep0 = s.ep0 := rfl
@[simp] theorem setTxEndpoint_ep2_ep2 (e : Endpoint) : (setTxEndpoint .ep2 e s).ep2 = e := rfl
@[simp] theorem txEndpoint_ep0 : txEndpoint .ep0 s = s.ep0 := rfl
@[simp] theorem txEndpoint_ep2 : txEndpoint .ep2 s = s.ep2 := rfl
@[simp] theorem trigger_ep0_ep0 : (trigger .ep0 s).ep0 = { s.ep0 with txTrigger := true } := rfl
@[simp] theorem trigger_ep0_ep2 : (trigger .ep0 s).ep2 = s.ep2 := rfl
@[simp] theorem trigger_ep2_ep0 : (trigger .ep2 s).ep0 = s.ep0 := rfl
@[simp] theorem trigger_ep2_ep2 : (trigger .ep2 s).ep2 = { s.ep2 with txTrigger := true } := rfl
@[simp] theorem appendBank_ep1 (b : Bank) :
    (appendBank b s).ep1
      = s.ep1.setBankFifo b (popBytes (s.ep1.bankCount b) (s.ep1.bankFifo b) s.freeCount).2.1 := rfl

/-! ## Banks -/

variable (e : Endpoint)

@[simp] theorem setBankFifo_bankFlag (b c : Bank) (q : Bytes) :
    (e.setBankFifo b q).bankFlag c = e.bankFlag c := by cases b <;> cases c <;> rfl
@[simp] theorem setBankFifo_bankCount (b c : Bank) (q : Bytes) :
    (e.setBankFifo b q).bankCount c = e.bankCount c := by cases b <;> cases c <;> rfl
@[simp] theorem setBankFifo_bankReq (b c : Bank) (q : Bytes) :
    (e.setBankFifo b q).bankReq c = e.bankReq c := by cases b <;> cases c <;> rfl
@[simp] theorem setBankFifo_bankFifo_same (b : Bank) (q : Bytes) :
    (e.setBankFifo b q).bankFifo b = q := by cases b <;> rfl
@[simp] theorem setBankReq_bankFlag (b c : Bank) (r : Req) :
    (e.setBankReq b r).bankFlag c = e.bankFlag c := by cases b <;> cases c <;> rfl
@[simp] theorem setBankReq_bankCount (b c : Bank) (r : Req) :
    (e.setBankReq b r).bankCount c = e.bankCount c := by cases b <;> cases c <;> rfl
@[simp] theorem setBankReq_bankFifo (b c : Bank) (r : Req) :
    (e.setBankReq b r).bankFifo c = e.bankFifo c := by cases b <;> cases c <;> rfl
@[simp] theorem setBankReq_bankReq_same (b : Bank) (r : Req) :
    (e.setBankReq b r).bankReq b = r := by cases b <;> rfl
@[simp] theorem setBankFifo_enabled (b : Bank) (q : Bytes) :
    (e.setBankFifo b q).enabled = e.enabled := by cases b <;> rfl
@[simp] theorem setBankFifo_eptype (b : Bank) (q : Bytes) :
    (e.setBankFifo b q).eptype = e.eptype := by cases b <;> rfl
@[simp] theorem setBankReq_enabled (b : Bank) (r : Req) :
    (e.setBankReq b r).enabled = e.enabled := by cases b <;> rfl
@[simp] theorem setBankReq_eptype (b : Bank) (r : Req) :
    (e.setBankReq b r).eptype = e.eptype := by cases b <;> rfl

theorem setBankFifo_bankFifo_other {b c : Bank} (h : c ≠ b) (q : Bytes) :
    (e.setBankFifo b q).bankFifo c = e.bankFifo c := by cases b <;> cases c <;> first | rfl | exact absurd rfl h

theorem setBankReq_bankReq_other {b c : Bank} (h : c ≠ b) (r : Req) :
    (e.setBankReq b r).bankReq c = e.bankReq c := by cases b <;> cases c <;> first | rfl | exact absurd rfl h

/-! ## The configuration values of SET_CONFIGURATION -/

theorem applyConfiguration_zero :
    applyConfiguration 0 s = { s with
      curCfg := 0, link := .addressed
      ep1 := { s.ep1 with enabled := false }
      ep2 := { s.ep2 with enabled := false } } := rfl

theorem applyConfiguration_nonzero {v : Byte} (h : v ≠ 0) :
    applyConfiguration v s = { s with
      curCfg := v, link := .configured
      ep1 := { s.ep1 with enabled := true, eptype := .interruptOut }
      ep2 := { s.ep2 with enabled := true, eptype := .interruptIn } } := by
  unfold applyConfiguration; exact if_neg h

end Sys2Proof.Machine
end

