-- ==== Sys2Proof/Laws/Crc.lean ====
section
/-! SUPPORT. The laws of the shift steps of the CRC (spec/40_crc32.md R151, R160): they act linearly over
xor, and zero low bits are only shifted. -/

namespace Sys2Proof.Machine

/-- A shift step is linear over xor. -/
theorem crcStep_xor (a b : Word) : crcStep (a ^^^ b) = crcStep a ^^^ crcStep b := by
  unfold crcStep
  rw [BitVec.getLsbD_xor, BitVec.ushiftRight_xor_distrib]
  generalize a >>> 1 = x
  generalize b >>> 1 = y
  cases a.getLsbD 0 <;> cases b.getLsbD 0
  · rfl
  · show x ^^^ y ^^^ crcPoly = x ^^^ (y ^^^ crcPoly)
    rw [BitVec.xor_assoc]
  · show x ^^^ y ^^^ crcPoly = x ^^^ crcPoly ^^^ y
    rw [BitVec.xor_assoc, BitVec.xor_assoc, BitVec.xor_comm y]
  · show x ^^^ y = x ^^^ crcPoly ^^^ (y ^^^ crcPoly)
    rw [BitVec.xor_comm y crcPoly, BitVec.xor_assoc, ← BitVec.xor_assoc crcPoly, BitVec.xor_self,
      BitVec.zero_xor]

/-- `k` shift steps are linear over xor. -/
theorem crcSteps_xor (k : Nat) (a b : Word) :
    crcSteps k (a ^^^ b) = crcSteps k a ^^^ crcSteps k b := by
  induction k generalizing a b with
  | zero => rfl
  | succ k ih => rw [crcSteps, crcStep_xor, ih]; rfl

theorem crcSteps_zero (k : Nat) : crcSteps k 0 = 0 := by
  induction k with
  | zero => rfl
  | succ k ih => rw [crcSteps, show crcStep 0 = 0 by decide, ih]

/-- Where the low `k` bits are 0, `k` shift steps only shift. -/
theorem crcSteps_of_low_zero (k : Nat) (a : Word) (h : ∀ i < k, a.getLsbD i = false) :
    crcSteps k a = a >>> k := by
  induction k generalizing a with
  | zero => simp [crcSteps]
  | succ k ih =>
    have h0 : crcStep a = a >>> 1 := by
      unfold crcStep
      rw [h 0 (by omega)]
      rfl
    rw [crcSteps, h0, ih _ fun i hi => by
      rw [BitVec.getLsbD_ushiftRight]
      exact h (1 + i) (by omega), ← BitVec.shiftRight_add, Nat.add_comm]

theorem crcSteps_add (j k : Nat) (a : Word) : crcSteps (j + k) a = crcSteps k (crcSteps j a) := by
  induction j generalizing a with
  | zero => simp [crcSteps]
  | succ j ih => rw [Nat.succ_add, crcSteps, ih]; rfl

@[simp] theorem crcFeed_nil (acc : Word) : crcFeed acc [] = acc := rfl

theorem crcFeed_cons (acc : Word) (b : Byte) (bs : Bytes) :
    crcFeed acc (b :: bs) = crcFeed (crcByte acc b) bs := rfl

end Sys2Proof.Machine
end

