-- ==== Sys2Proof/Laws/Encoding.lean ====
section
/-! SUPPORT. Byte order and packets: fields read back from the bytes they were written to
(spec/20_memory.md R82, R85; spec/30_encoding.md R110 to R119). -/

namespace Sys2Proof

/-! ## Configurations -/

/-- What `Config.wf` checks, as propositions (spec/20_memory.md R72, spec/44_environment.md R276). -/
theorem Config.wf_iff (c : Config) : c.wf = true ↔
    (∀ t ∈ c.rom.strings, t ≠ [] ∧ (t.headD 0).toNat = t.length) ∧ c.ep0OutFlagging = .none := by
  simp only [Config.wf, Bool.and_eq_true, List.all_eq_true, beq_iff_eq]
  refine and_congr (forall_congr' fun t => forall_congr' fun _ => ?_) Iff.rfl
  cases t <;> simp [Config.stringOk]

theorem Config.codesDistinct_iff (c : Config) : c.codesDistinct = true ↔
    c.req.toList.Nodup ∧ c.dt.toList.Nodup ∧ c.op.toList.Nodup := by
  simp only [Config.codesDistinct, Bool.and_eq_true, decide_eq_true_eq, and_assoc]

/-! ## Bits of concatenated values -/

theorem u16le_getLsbD (b0 b1 : Byte) (i : Nat) :
    (u16le b0 b1).getLsbD i = if i < 8 then b0.getLsbD i else b1.getLsbD (i - 8) :=
  BitVec.getLsbD_append

theorem u32le_getLsbD (b0 b1 b2 b3 : Byte) (i : Nat) :
    (u32le b0 b1 b2 b3).getLsbD i = if i < 8 then b0.getLsbD i
      else if i - 8 < 8 then b1.getLsbD (i - 8)
      else if i - 8 - 8 < 8 then b2.getLsbD (i - 8 - 8) else b3.getLsbD (i - 8 - 8 - 8) := by
  unfold u32le
  rw [show (b3 ++ b2 ++ b1 ++ b0 : BitVec 32) = (b3 ++ b2 ++ b1 : BitVec 24) ++ b0 from rfl,
    BitVec.getLsbD_append, show (b3 ++ b2 ++ b1 : BitVec 24) = (b3 ++ b2 : BitVec 16) ++ b1 from rfl,
    BitVec.getLsbD_append, BitVec.getLsbD_append]

theorem statusRequestType_getLsbD (k : BitVec 2) (r : BitVec 5) (i : Nat) :
    (statusRequestType k r).getLsbD i = if i < 5 then r.getLsbD i
      else if i - 5 < 2 then k.getLsbD (i - 5) else (1#1).getLsbD (i - 5 - 2) := by
  unfold statusRequestType
  rw [show ((1#1 ++ k ++ r : BitVec 8)) = (1#1 ++ k : BitVec 3) ++ r from rfl,
    BitVec.getLsbD_append, BitVec.getLsbD_append]

theorem addrField_getLsbD (h : BitVec 9) (a : BitVec 7) (i : Nat) :
    (h ++ a : BitVec 16).getLsbD i = if i < 7 then a.getLsbD i else h.getLsbD (i - 7) :=
  BitVec.getLsbD_append

/-! ## Bytes of values -/

@[simp] theorem u16le_byteOf (v : Half) : u16le (byteOf 0 v) (byteOf 1 v) = v := by
  apply BitVec.eq_of_getLsbD_eq
  intro i hi
  simp only [u16le_getLsbD, byteOf, BitVec.getLsbD_extractLsb']
  by_cases h : i < 8
  · simp [h]
  · simp [h, show i - 8 < 8 by omega, show 8 + (i - 8) = i by omega]

@[simp] theorem u32le_byteOf (v : Word) :
    u32le (byteOf 0 v) (byteOf 1 v) (byteOf 2 v) (byteOf 3 v) = v := by
  apply BitVec.eq_of_getLsbD_eq
  intro i hi
  simp only [u32le_getLsbD, byteOf, BitVec.getLsbD_extractLsb']
  by_cases h1 : i < 8
  · simp [h1]
  · by_cases h2 : i < 16
    · simp [h1, show i - 8 < 8 by omega, show 8 + (i - 8) = i by omega]
    · by_cases h3 : i < 24
      · simp [h1, show ¬ i - 8 < 8 by omega, show i - 8 - 8 < 8 by omega,
          show 16 + (i - 8 - 8) = i by omega]
      · simp [h1, show ¬ i - 8 < 8 by omega, show ¬ i - 8 - 8 < 8 by omega,
          show i - 8 - 8 - 8 < 8 by omega,
          show 24 + (i - 8 - 8 - 8) = i by omega]

@[simp] theorem lowByte_u16le (b0 b1 : Byte) : lowByte (u16le b0 b1) = b0 := by
  apply BitVec.eq_of_getLsbD_eq
  intro i hi
  simp [lowByte, u16le_getLsbD, hi]

@[simp] theorem highByte_u16le (b0 b1 : Byte) : highByte (u16le b0 b1) = b1 := by
  apply BitVec.eq_of_getLsbD_eq
  intro i hi
  simp [highByte, u16le_getLsbD, hi]

@[simp] theorem u16le_low_high (v : Half) : u16le (lowByte v) (highByte v) = v := u16le_byteOf v

@[simp] theorem byteOf_u16le_0 (b0 b1 : Byte) : byteOf 0 (u16le b0 b1) = b0 := lowByte_u16le b0 b1

@[simp] theorem byteOf_u16le_1 (b0 b1 : Byte) : byteOf 1 (u16le b0 b1) = b1 := highByte_u16le b0 b1

theorem bytes32_u32le (b0 b1 b2 b3 : Byte) : bytes32 (u32le b0 b1 b2 b3) = [b0, b1, b2, b3] := by
  unfold bytes32
  congr 1
  · apply BitVec.eq_of_getLsbD_eq
    intro i hi
    simp [byteOf, u32le_getLsbD, hi]
  congr 1
  · apply BitVec.eq_of_getLsbD_eq
    intro i hi
    simp [byteOf, u32le_getLsbD, hi]
  congr 1
  · apply BitVec.eq_of_getLsbD_eq
    intro i hi
    simp [byteOf, u32le_getLsbD, hi, show ¬ 16 + i < 8 by omega,
      show 16 + i - 8 - 8 = i by omega, show ¬ 16 + i - 8 < 8 by omega]
  congr 1
  apply BitVec.eq_of_getLsbD_eq
  intro i hi
  simp [byteOf, u32le_getLsbD, hi, show ¬ 24 + i < 8 by omega,
    show 24 + i - 8 - 8 - 8 = i by omega, show ¬ 24 + i - 8 < 8 by omega,
    show ¬ 24 + i - 8 - 8 < 8 by omega]

/-- A packet of any fields is read back as those fields. -/
@[simp] theorem parseSetup_toBytes (p : Setup) : parseSetup p.toBytes = some p := by
  cases p
  simp [parseSetup, Setup.toBytes, bytes16, setupOf]

/-- Only eight bytes are a packet, and they are the packet's bytes. -/
theorem toBytes_of_parseSetup {bytes : Bytes} {p : Setup} (h : parseSetup bytes = some p) :
    p.toBytes = bytes := by
  unfold parseSetup at h
  split at h
  · cases h
    simp [Setup.toBytes, bytes16, setupOf]
  · cases h

/-! ## The request-type byte of GET_STATUS (30_encoding.md R119) -/

@[simp] theorem statusRequestType_dir (k : BitVec 2) (r : BitVec 5) :
    (statusRequestType k r).getLsbD 7 = true := by
  rw [statusRequestType_getLsbD]; rfl

@[simp] theorem statusRequestType_recipient (k : BitVec 2) (r : BitVec 5) :
    (statusRequestType k r).extractLsb' 0 5 = r := by
  apply BitVec.eq_of_getLsbD_eq
  intro i hi
  simp [statusRequestType_getLsbD, hi]

@[simp] theorem statusRequestType_kind (k : BitVec 2) (r : BitVec 5) :
    (statusRequestType k r).extractLsb' 5 2 = k := by
  apply BitVec.eq_of_getLsbD_eq
  intro i hi
  simp [statusRequestType_getLsbD, hi]

/-- A request-type byte with the direction bit set is rebuilt from its kind and recipient. -/
theorem statusRequestType_eta {rt : Byte} (h : rt.getLsbD 7 = true) :
    statusRequestType (rt.extractLsb' 5 2) (rt.extractLsb' 0 5) = rt := by
  apply BitVec.eq_of_getLsbD_eq
  intro i hi
  simp only [statusRequestType_getLsbD, BitVec.getLsbD_extractLsb']
  by_cases h1 : i < 5
  · simp [h1]
  · by_cases h2 : i < 7
    · simp [h1, show i - 5 < 2 by omega, show 5 + (i - 5) = i by omega]
    · have : i = 7 := by omega
      subst this
      simpa using h.symm

/-! ## The address field of SET_ADDRESS (30_encoding.md R117) -/

@[simp] theorem addr_of_append (h : BitVec 9) (a : BitVec 7) :
    ((h ++ a : BitVec 16)).extractLsb' 0 7 = a := by
  apply BitVec.eq_of_getLsbD_eq
  intro i hi
  simp [addrField_getLsbD, hi]

@[simp] theorem high_of_append (h : BitVec 9) (a : BitVec 7) :
    ((h ++ a : BitVec 16)).extractLsb' 7 9 = h := by
  apply BitVec.eq_of_getLsbD_eq
  intro i hi
  simp [addrField_getLsbD, hi]

theorem append_addr_high (v : Half) :
    (v.extractLsb' 7 9 ++ v.extractLsb' 0 7 : BitVec 16) = v := by
  apply BitVec.eq_of_getLsbD_eq
  intro i hi
  simp only [addrField_getLsbD, BitVec.getLsbD_extractLsb']
  by_cases h : i < 7
  · simp [h]
  · simp [h, show i - 7 < 9 by omega, show 7 + (i - 7) = i by omega]

/-! ## Frames (30_encoding.md R121) -/

/-- A frame of any fields and 48 payload bytes is read back as those fields. -/
theorem decodeFrame_frameBytes (c : Config) (op e1 e2 e3 : Word) (p : Bytes) (h : p.length = 48) :
    decodeFrame c (frameBytes op e1 e2 e3 p) = decodeFrameFields c op e1 e2 e3 p := by
  simp [decodeFrame, frameBytes, bytes32, h]

theorem frameBytes_length (op e1 e2 e3 : Word) (p : Bytes) (h : p.length = 48) :
    (frameBytes op e1 e2 e3 p).length = frameLen := by
  simp [frameBytes, bytes32, h, frameLen]

end Sys2Proof
end

