-- ==== Sys2Proof/Laws/Memory.lean ====
section
/-! SUPPORT. The laws of the flash memory: reads after writes, and the canonical form that every
operation keeps. -/

namespace Sys2Proof.Machine.Memory

theorem read_lt {m : Memory} {a : Nat} (h : ∀ x ∈ m, a < x.1) : read m a = unlisted := by
  induction m with
  | nil => rfl
  | cons x m ih =>
    obtain ⟨a', b⟩ := x
    have h1 : a < a' := h (a', b) (by simp)
    rw [read, if_neg (by omega)]
    exact ih fun y hy => h y (by simp [hy])

/-- What a write leaves at each address of a canonical memory. -/
theorem read_write {m : Memory} (hm : m.Pairwise (fun x y => x.1 < y.1)) (a : Nat) (b : Byte)
    (c : Nat) : read (write m a b) c = if c = a then b else read m c := by
  induction m with
  | nil =>
    by_cases hb : b = unlisted
    · simp [write, hb, read]
    · by_cases hc : c = a
      · simp [write, hb, read, hc]
      · simp [write, hb, read, hc, Ne.symm hc]
  | cons x m ih =>
    obtain ⟨a', b'⟩ := x
    obtain ⟨h1, h2⟩ := List.pairwise_cons.1 hm
    rw [write]
    split
    · next hlt =>
      split
      · next hb =>
        by_cases hc : c = a
        · subst hc; subst hb
          rw [if_pos rfl]
          exact read_lt fun y hy => by
            rcases List.mem_cons.1 hy with rfl | hy
            · exact hlt
            · exact Nat.lt_trans hlt (h1 y hy)
        · rw [if_neg hc]
      · by_cases hc : c = a
        · rw [if_pos hc, read, if_pos hc.symm]
        · rw [if_neg hc, read, if_neg (Ne.symm hc)]
    · next hlt =>
      split
      · next heq =>
        subst heq
        by_cases hc : c = a
        · subst hc
          split
          · next hb => rw [if_pos rfl, hb]; exact read_lt fun y hy => h1 y hy
          · rw [if_pos rfl, read, if_pos rfl]
        · rw [if_neg hc, show read ((a, b') :: m) c = if a = c then b' else read m c from rfl, if_neg (Ne.symm hc)]
          split
          · rfl
          · rw [read, if_neg (Ne.symm hc)]
      · next hne =>
        rw [read, read, ih h2]
        by_cases hc : a' = c
        · have : c ≠ a := by omega
          simp [hc, this]
        · simp [hc]

theorem mem_write {m : Memory} {a : Nat} {b : Byte} {x : Host.Cell} (h : x ∈ write m a b) :
    x ∈ m ∨ (x = (a, b) ∧ b ≠ unlisted) := by
  induction m with
  | nil =>
    unfold write at h
    split at h
    · simp at h
    · next hb => exact .inr ⟨by simpa using h, hb⟩
  | cons y m ih =>
    obtain ⟨a', b'⟩ := y
    unfold write at h
    split at h
    · split at h
      · exact .inl h
      · next hb =>
        rcases List.mem_cons.1 h with h | h
        · exact .inr ⟨h, hb⟩
        · exact .inl h
    · split at h
      · split at h
        · exact .inl (List.mem_cons_of_mem _ h)
        · next hb =>
          rcases List.mem_cons.1 h with h | h
          · exact .inr ⟨h, hb⟩
          · exact .inl (List.mem_cons_of_mem _ h)
      · rcases List.mem_cons.1 h with h | h
        · exact .inl (by simp [h])
        · rcases ih h with h | h
          · exact .inl (List.mem_cons_of_mem _ h)
          · exact .inr h

theorem pairwise_write {m : Memory} (hm : m.Pairwise (fun x y => x.1 < y.1)) (a : Nat) (b : Byte) :
    (write m a b).Pairwise (fun x y => x.1 < y.1) := by
  induction m with
  | nil => unfold write; split <;> simp
  | cons x m ih =>
    obtain ⟨a', b'⟩ := x
    obtain ⟨h1, h2⟩ := List.pairwise_cons.1 hm
    unfold write
    split
    · next hlt =>
      split
      · exact hm
      · refine List.pairwise_cons.2 ⟨fun y hy => ?_, hm⟩
        rcases List.mem_cons.1 hy with rfl | hy
        · exact hlt
        · exact Nat.lt_trans hlt (h1 y hy)
    · next hlt =>
      split
      · next heq =>
        split
        · exact h2
        · exact List.pairwise_cons.2 ⟨fun y hy => heq ▸ h1 y hy, h2⟩
      · next hne =>
        refine List.pairwise_cons.2 ⟨fun y hy => ?_, ih h2⟩
        rcases mem_write hy with hy | ⟨rfl, -⟩
        · exact h1 y hy
        · show a' < a; omega

/-- A write keeps the canonical form. -/
theorem wf_write {m : Memory} (h : wf m) (a : Nat) (b : Byte) : wf (write m a b) :=
  ⟨pairwise_write h.1 a b, fun x hx => by
    rcases mem_write hx with hx | ⟨rfl, hb⟩
    · exact h.2 x hx
    · exact hb⟩

/-- Writing a byte string keeps the canonical form. -/
theorem wf_writeBytes {m : Memory} (h : wf m) (a : Nat) (bs : Bytes) : wf (writeBytes m a bs) := by
  induction bs generalizing m a with
  | nil => exact h
  | cons b bs ih => exact ih (wf_write h a b) (a + 1)

theorem read_writeBytes_other {m : Memory} (h : wf m) (a : Nat) (bs : Bytes) (c : Nat)
    (hc : c < a ∨ a + bs.length ≤ c) : read (writeBytes m a bs) c = read m c := by
  induction bs generalizing m a with
  | nil => rfl
  | cons b bs ih =>
    simp only [List.length_cons] at hc
    rw [writeBytes, ih (wf_write h a b) _ (by omega), read_write h.1, if_neg (by omega)]

theorem read_writeBytes_inside {m : Memory} (h : wf m) (a : Nat) (bs : Bytes) (i : Nat)
    (hi : i < bs.length) : some (read (writeBytes m a bs) (a + i)) = bs[i]? := by
  induction bs generalizing m a i with
  | nil => simp at hi
  | cons b bs ih =>
    rw [writeBytes]
    cases i with
    | zero =>
      rw [read_writeBytes_other (wf_write h a b) _ _ _ (Or.inl (by omega)), read_write h.1]
      simp
    | succ i =>
      rw [show a + (i + 1) = a + 1 + i by omega,
        ih (wf_write h a b) (a + 1) i (by simpa using hi)]
      simp

/-- The memory after reset is in canonical form. -/
theorem wf_reset : wf State.reset.flash := by decide

end Sys2Proof.Machine.Memory
end

