-- ==== Sys2Proof/Laws/Ops.lean ====
section
/-! SUPPORT. What each shared operation can do, once: results, pops, loads, reads of a source, buffer
writes. -/

namespace Sys2Proof.Machine

/-! ## Results -/

@[simp] theorem andThen_next (s : State) (k : State → Result) : andThen (.next s) k = k s := rfl
@[simp] theorem andThen_fault (e : Fault) (k : State → Result) :
    andThen (.fault e) k = .fault e := rfl
@[simp] theorem andThen_refused (e : Refusal) (k : State → Result) :
    andThen (.refused e) k = .refused e := rfl
@[simp] theorem nextState_next (s : State) : nextState (.next s) = some s := rfl

theorem andThen_eq_next {r : Result} {k : State → Result} {t : State} (h : andThen r k = .next t) :
    ∃ s, r = .next s ∧ k s = .next t := by
  cases r with
  | next s => exact ⟨s, rfl, h⟩
  | fault e => cases h
  | refused e => cases h

/-! ## FifoPop (20_memory.md R88) -/

theorem popBytes_length (n : Nat) (q : Bytes) (k : Nat) : (popBytes n q k).1.length = n := by
  induction n generalizing q k with
  | zero => rfl
  | succ n ih => cases q <;> simp [popBytes, ih]

/-- Popping exactly what a FIFO holds gives its bytes in order, empties it and draws no free value. -/
theorem popBytes_whole (q : Bytes) (k : Nat) : popBytes q.length q k = (q, [], k) := by
  induction q with
  | nil => rfl
  | cons b q ih => simp [popBytes, ih]

theorem popBytes_of_length {n : Nat} {q : Bytes} (h : q.length = n) (k : Nat) :
    popBytes n q k = (q, [], k) := h ▸ popBytes_whole q k

/-! ## MemRead and chunks (20_memory.md R71, R86) -/

theorem memRead_eq {space : Bytes} {addr n : Nat} (h : addr + n ≤ space.length) :
    memRead space addr n = some ((space.drop addr).take n) := if_pos h

theorem memRead_length {space bytes : Bytes} {addr n : Nat} (h : memRead space addr n = some bytes) :
    bytes.length = n := by
  unfold memRead at h
  split at h
  · cases h; simp; omega
  · cases h

theorem chunkLen_le (t : Tx) : chunkLen t ≤ fifoDepth := Nat.min_le_right _ _

theorem chunkLen_le_rem (t : Tx) : chunkLen t ≤ t.rem := Nat.min_le_left _ _

theorem nextChunk_eq {c : Config} {t : Tx} (h : txInRange c t) :
    nextChunk c t = some (((srcBytes c t.src).drop t.off).take (chunkLen t)) := by
  have := chunkLen_le_rem t
  exact memRead_eq (by unfold txInRange at h; omega)

@[simp] theorem Tx.advance_src (t : Tx) : t.advance.src = t.src := rfl
@[simp] theorem Tx.advance_off (t : Tx) : t.advance.off = t.off + chunkLen t := rfl
@[simp] theorem Tx.advance_rem (t : Tx) : t.advance.rem = t.rem - chunkLen t := rfl

theorem txInRange_advance {c : Config} {t : Tx} (h : txInRange c t) : txInRange c t.advance := by
  have := chunkLen_le_rem t
  unfold txInRange at *
  simp only [Tx.advance_src, Tx.advance_off, Tx.advance_rem]
  omega

/-! ## FifoLoad and trigger (20_memory.md R89, 70_reset_and_hazards.md R356) -/

theorem loadAndTrigger_ep0 {s : State} (h : s.ep0.txFifo = [] ∧ s.ep0.txTrigger = false)
    (chunk : Bytes) :
    loadAndTrigger .ep0 chunk s
      = .next { s with ep0 := { s.ep0 with txFifo := chunk, txTrigger := true } } := by
  unfold loadAndTrigger
  rw [if_pos (by simpa using h)]
  rfl

theorem loadAndTrigger_ep2 {s : State} (h : s.ep2.txFifo = [] ∧ s.ep2.txTrigger = false)
    (chunk : Bytes) :
    loadAndTrigger .ep2 chunk s
      = .next { s with ep2 := { s.ep2 with txFifo := chunk, txTrigger := true } } := by
  unfold loadAndTrigger
  rw [if_pos (by simpa using h)]
  rfl

/-- SendControl's loop body when no SETUP is flagged: the chunk is loaded and triggered. -/
theorem sendChunk_eq {t : Tx} {s : State} (hs : s.ep0.rxSetup = false)
    (hq : s.ep0.txFifo = [] ∧ s.ep0.txTrigger = false) (hr : txInRange s.cfg t) :
    sendChunk t s = .next (goto (.ctlTx t) { s with ep0 := { s.ep0 with
      txFifo := ((srcBytes s.cfg t.src).drop t.off).take (chunkLen t), txTrigger := true } }) := by
  simp [sendChunk, hs, nextChunk_eq hr, loadAndTrigger_ep0 hq]

/-- SendControl's loop body when a SETUP is flagged: aborted. -/
theorem sendChunk_abort {t : Tx} {s : State} (hs : s.ep0.rxSetup = true) :
    sendChunk t s = requestDone s := by simp [sendChunk, hs]

/-- SendFrame's loop with nothing left: it returns to its caller. -/
theorem sendFrameLoop_done {t : Tx} {c : Caller} {s : State} (h : t.rem = 0) :
    sendFrameLoop t c s = .next (frameReturn c s) := by simp [sendFrameLoop, h]

/-- SendFrame's loop with bytes left: the chunk is loaded and triggered. -/
theorem sendFrameLoop_eq {t : Tx} {c : Caller} {s : State} (h : t.rem ≠ 0)
    (hq : s.ep2.txFifo = [] ∧ s.ep2.txTrigger = false) (hr : txInRange s.cfg t) :
    sendFrameLoop t c s = .next (goto (.frmTx t c) { s with ep2 := { s.ep2 with
      txFifo := ((srcBytes s.cfg t.src).drop t.off).take (chunkLen t), txTrigger := true } }) := by
  simp [sendFrameLoop, h, nextChunk_eq hr, loadAndTrigger_ep2 hq]

/-! ## RXBUF and the staging area -/

/-- A byte outside the written offsets is unchanged. -/
theorem storeBytes_other {n : Nat} (buf : Vector Byte n) (off : Nat) (bs : Bytes) (i : Nat)
    (h : i < off ∨ off + bs.length ≤ i) : (storeBytes buf off bs)[i]? = buf[i]? := by
  induction bs generalizing buf off with
  | nil => rfl
  | cons b bs ih =>
    rw [storeBytes, ih _ _ (by simp at h; omega)]
    simp only [List.length_cons] at h
    rw [Vector.getElem?_setIfInBounds]
    have : off ≠ i := by omega
    simp [this]

/-- A byte inside the written offsets and inside the buffer is the byte written. -/
theorem storeBytes_inside {n : Nat} (buf : Vector Byte n) (off : Nat) (bs : Bytes) (i : Nat)
    (hi : i < bs.length) (hn : off + i < n) : (storeBytes buf off bs)[off + i]? = bs[i]? := by
  induction bs generalizing buf off i with
  | nil => simp at hi
  | cons b bs ih =>
    rw [storeBytes]
    cases i with
    | zero =>
      rw [storeBytes_other _ _ _ _ (Or.inl (by omega)), Vector.getElem?_setIfInBounds]
      simp; omega
    | succ i =>
      have := ih (buf.setIfInBounds off b) (off + 1) i (by simpa using hi) (by omega)
      rw [show off + (i + 1) = off + 1 + i by omega, this]
      simp

/-! ## The halt (60_exceptions.md R305) and results of positions -/

theorem halt_eq (r : Reason) (s : State) :
    halt r s = { s with seq := .halted r, history := s.history ++ [.halt r] } := rfl

theorem pollReturn_eq (b : Bool) (s : State) :
    pollReturn b s = { s with seq := .idle, history := s.history ++ [.pollReturn b] } := rfl

/-- The banks tested at POLL step 3: the first pending one is drained, and with none pending POLL
returns. -/
theorem drainBanks_cases (l : List Bank) (s : State) :
    drainBanks l s = .next (pollReturn true s) ∨
      ∃ b rest, s.ep1.bankFlag b = true ∧ drainBanks l s = drainBank b rest s := by
  induction l with
  | nil => exact .inl rfl
  | cons b l ih =>
    unfold drainBanks
    by_cases h : s.ep1.bankFlag b = true
    · exact .inr ⟨b, l, h, if_pos h⟩
    · rw [if_neg h]; exact ih

theorem pollStep3_cases (v : Bool) (s : State) :
    pollStep3 v s = .next (pollReturn v s) ∨ pollStep3 v s = .next (pollReturn true s) ∨
      ∃ b rest, s.ep1.bankFlag b = true ∧ pollStep3 v s = drainBank b rest s := by
  unfold pollStep3
  split
  · rcases drainBanks_cases (bankOrder s.cfg.rxBankOrder) s with h | h
    · exact .inr (.inl h)
    · exact .inr (.inr h)
  · exact .inl rfl

/-- With no EP1 event pending POLL returns what steps 1 and 2 gave. -/
theorem pollStep3_quiet {s : State} (h : ep1Pending s = false) (v : Bool) :
    pollStep3 v s = .next (pollReturn v s) := by simp [pollStep3, h]

end Sys2Proof.Machine
end

