-- ==== Sys2Proof/Laws/Packed.lean ====
section
/-! SUPPORT. The packed word of a SETUP packet byte by byte, and what a row's mask and value say of the
packet's fields (spec/30_encoding.md R112). -/

namespace Sys2Proof

/-- A masked word equals a value exactly when each of its bytes does. -/
theorem and_eq_iff_bytes (W M V : BitVec 64) :
    (W &&& M = V) ↔ ∀ k < 8, (byteOf k W &&& byteOf k M) = byteOf k V := by
  constructor
  · intro h k hk
    subst h
    apply BitVec.eq_of_getLsbD_eq
    intro i hi
    simp [byteOf, hi]
  · intro h
    apply BitVec.eq_of_getLsbD_eq
    intro i hi
    have := congrArg (fun b => b.getLsbD (i % 8)) (h (i / 8) (by omega))
    simp only [byteOf, BitVec.getLsbD_and, BitVec.getLsbD_extractLsb', show 8 * (i / 8) + i % 8 = i by omega,
      show i % 8 < 8 by omega, decide_true, Bool.true_and] at this
    simpa using this

/-- The bits of the packed word `W` of R112. -/
theorem word_getLsbD (p : Setup) (i : Nat) : p.word.getLsbD i =
    if i < 8 then p.bmRequestType.getLsbD i
    else if i - 8 < 8 then p.bRequest.getLsbD (i - 8)
    else if i - 8 - 8 < 16 then p.wValue.getLsbD (i - 8 - 8)
    else if i - 8 - 8 - 16 < 16 then p.wIndex.getLsbD (i - 8 - 8 - 16)
    else p.wLength.getLsbD (i - 8 - 8 - 16 - 16) := by
  unfold Setup.word
  rw [show (p.wLength ++ p.wIndex ++ p.wValue ++ p.bRequest ++ p.bmRequestType : BitVec 64)
    = (p.wLength ++ p.wIndex ++ p.wValue ++ p.bRequest : BitVec 56) ++ p.bmRequestType from rfl,
    BitVec.getLsbD_append,
    show (p.wLength ++ p.wIndex ++ p.wValue ++ p.bRequest : BitVec 56)
    = (p.wLength ++ p.wIndex ++ p.wValue : BitVec 48) ++ p.bRequest from rfl,
    BitVec.getLsbD_append,
    show (p.wLength ++ p.wIndex ++ p.wValue : BitVec 48)
    = (p.wLength ++ p.wIndex : BitVec 32) ++ p.wValue from rfl,
    BitVec.getLsbD_append, BitVec.getLsbD_append]

theorem byteOf_word_0 (p : Setup) : byteOf 0 p.word = p.bmRequestType := by
  apply BitVec.eq_of_getLsbD_eq; intro i hi
  simp [byteOf, word_getLsbD, hi]
theorem byteOf_word_1 (p : Setup) : byteOf 1 p.word = p.bRequest := by
  apply BitVec.eq_of_getLsbD_eq; intro i hi
  simp [byteOf, word_getLsbD, hi]
theorem byteOf_word_3 (p : Setup) : byteOf 3 p.word = highByte p.wValue := by
  apply BitVec.eq_of_getLsbD_eq; intro i hi
  simp only [byteOf, highByte, word_getLsbD, BitVec.getLsbD_extractLsb', hi, decide_true, Bool.true_and]
  simp only [show ¬ 8 * 3 + i < 8 by omega, show ¬ 8 * 3 + i - 8 < 8 by omega, show 8 * 3 + i - 8 - 8 = 8 + i by omega,
    show 8 + i < 16 by omega, if_true, if_false]

theorem and_ff (b : Byte) : b &&& 0xFF#8 = b := by
  rw [show (0xFF#8) = BitVec.allOnes 8 from rfl, BitVec.and_allOnes]

/-- A row whose mask is byte 1 selects by `bRequest`. -/
theorem sel_req (p : Setup) (v : Byte) (V : BitVec 64) (hV : ∀ k < 8, byteOf k V = if k = 1 then v else 0) :
    (p.word &&& 0x000000000000FF00 = V) ↔ p.bRequest = v := by
  rw [and_eq_iff_bytes]
  constructor
  · intro h
    have := h 1 (by omega)
    rw [hV 1 (by omega), byteOf_word_1, show byteOf 1 (0x000000000000FF00 : BitVec 64) = 0xFF#8 by decide, and_ff] at this
    simpa using this
  · intro h k hk
    rw [hV k hk]
    have : byteOf k (0x000000000000FF00 : BitVec 64) = if k = 1 then 0xFF else 0 := by
      revert k; decide
    rw [this]
    split
    · next hk => subst hk; rw [byteOf_word_1, h]; exact and_ff v
    · simp

/-- A row whose mask is bytes 1 and 3 selects by `bRequest` and the descriptor type. -/
theorem sel_desc (p : Setup) (v d : Byte) (V : BitVec 64) (hV : ∀ k < 8, byteOf k V = if k = 1 then v else if k = 3 then d else 0) :
    (p.word &&& 0x00000000FF00FF00 = V) ↔ p.bRequest = v ∧ highByte p.wValue = d := by
  rw [and_eq_iff_bytes]
  constructor
  · intro h
    have h1 := h 1 (by omega)
    have h3 := h 3 (by omega)
    rw [hV 1 (by omega), byteOf_word_1, show byteOf 1 (0x00000000FF00FF00 : BitVec 64) = 0xFF#8 by decide, and_ff] at h1
    rw [hV 3 (by omega), byteOf_word_3, show byteOf 3 (0x00000000FF00FF00 : BitVec 64) = 0xFF#8 by decide, and_ff] at h3
    exact ⟨by simpa using h1, by simpa using h3⟩
  · rintro ⟨h, h'⟩ k hk
    rw [hV k hk]
    have : byteOf k (0x00000000FF00FF00 : BitVec 64) = if k = 1 then 0xFF else if k = 3 then 0xFF else 0 := by
      revert k; decide
    rw [this]
    split
    · next hk => subst hk; rw [byteOf_word_1, h]; exact and_ff v
    split
    · next hk => subst hk; rw [byteOf_word_3, h']; exact and_ff d
    · simp

/-- A GET_STATUS row selects by `bRequest` and bits 7 and 4..0 of `bmRequestType`. -/
theorem sel_status (p : Setup) (r : Byte) (V : BitVec 64) (hV : ∀ k < 8, byteOf k V = if k = 0 then r else 0) :
    (p.word &&& 0x000000000000FF9F = V) ↔ p.bRequest = 0 ∧ p.bmRequestType &&& 0x9F = r := by
  rw [and_eq_iff_bytes]
  constructor
  · intro h
    have h1 := h 1 (by omega)
    have h0 := h 0 (by omega)
    rw [hV 1 (by omega), byteOf_word_1, show byteOf 1 (0x000000000000FF9F : BitVec 64) = 0xFF#8 by decide, and_ff] at h1
    rw [hV 0 (by omega), byteOf_word_0, show byteOf 0 (0x000000000000FF9F : BitVec 64) = 0x9F#8 by decide] at h0
    exact ⟨by simpa using h1, by simpa using h0⟩
  · rintro ⟨h, h'⟩ k hk
    rw [hV k hk]
    have : byteOf k (0x000000000000FF9F : BitVec 64) = if k = 0 then 0x9F else if k = 1 then 0xFF else 0 := by
      revert k; decide
    rw [this]
    split
    · next hk => subst hk; rw [byteOf_word_0, h']
    split
    · next hk => subst hk; rw [byteOf_word_1, h]; rfl
    · simp

/-- Those bits of `bmRequestType`, as direction and recipient (R119). -/
theorem stat_iff (rt : Byte) :
    ((rt &&& 0x9F = 0x80) ↔ (rt.getLsbD 7 = true ∧ rt.extractLsb' 0 5 = 0#5)) ∧
    ((rt &&& 0x9F = 0x81) ↔ (rt.getLsbD 7 = true ∧ rt.extractLsb' 0 5 = 1#5)) ∧
    ((rt &&& 0x9F = 0x82) ↔ (rt.getLsbD 7 = true ∧ rt.extractLsb' 0 5 = 2#5)) := by
  revert rt; decide +kernel

end Sys2Proof
end

