-- ==== Sys2Proof/Laws/PerInstr.lean ====
section
/-! SUPPORT. Statements about every instruction as syntax, one lemma per constructor. -/

namespace Sys2Proof.Laws.EncodedLength

/-- The word of a well-formed instruction has its format's length: an invocation has at least its `op_sel`
byte, a SETUP packet has eight bytes, a frame has 64 (spec/30_encoding.md R110, R121, R130). -/
def Statement (i : Instr) : Prop :=
  ∀ c : Config, wellFormed c i = true →
    match i.format with
    | .opsel => 1 ≤ (encode c i).length
    | .setup => (encode c i).length = 8
    | .frame => (encode c i).length = frameLen

theorem crcSeed : Statement .crcSeed := fun _ _ => by simp [Instr.format, encode]

theorem crcLoad (a : Word) : Statement (.crcLoad a) := fun _ _ => by
  simp [Instr.format, encode]

theorem crcFeed (a : Bytes) : Statement (.crcFeed a) := fun _ _ => by
  simp [Instr.format, encode]

theorem crcRaw : Statement .crcRaw := fun _ _ => by simp [Instr.format, encode]

theorem crcFinal : Statement .crcFinal := fun _ _ => by simp [Instr.format, encode]

theorem poll : Statement .poll := fun _ _ => by simp [Instr.format, encode]

theorem sendFrame (a : Bytes) : Statement (.sendFrame a) := fun _ _ => by
  simp [Instr.format, encode]

theorem getDescriptorDevice (rt x : Byte) (i l : Half) : Statement (.getDescriptorDevice rt x i l) := fun _ _ => rfl

theorem getDescriptorConfiguration (rt x : Byte) (i l : Half) : Statement (.getDescriptorConfiguration rt x i l) := fun _ _ => rfl

theorem getDescriptorString (rt x : Byte) (i l : Half) : Statement (.getDescriptorString rt x i l) := fun _ _ => rfl

theorem getDescriptorHidReport (rt x : Byte) (i l : Half) : Statement (.getDescriptorHidReport rt x i l) := fun _ _ => rfl

theorem getDescriptorUnknownType (rt t x : Byte) (i l : Half) : Statement (.getDescriptorUnknownType rt t x i l) := fun _ _ => rfl

theorem getStatusDevice (k : BitVec 2) (v i l : Half) : Statement (.getStatusDevice k v i l) := fun _ _ => rfl

theorem getStatusInterface (k : BitVec 2) (v i l : Half) : Statement (.getStatusInterface k v i l) := fun _ _ => rfl

theorem getStatusEndpoint (k : BitVec 2) (v i l : Half) : Statement (.getStatusEndpoint k v i l) := fun _ _ => rfl

theorem getStatusOther (rt : Byte) (v i l : Half) : Statement (.getStatusOther rt v i l) := fun _ _ => rfl

theorem clearFeature (rt : Byte) (v i l : Half) : Statement (.clearFeature rt v i l) := fun _ _ => rfl

theorem setFeature (rt : Byte) (v i l : Half) : Statement (.setFeature rt v i l) := fun _ _ => rfl

theorem setAddress (rt : Byte) (a : BitVec 7) (h : BitVec 9) (i l : Half) : Statement (.setAddress rt a h i l) := fun _ _ => rfl

theorem setDescriptor (rt : Byte) (v i l : Half) : Statement (.setDescriptor rt v i l) := fun _ _ => rfl

theorem getConfiguration (rt : Byte) (v i l : Half) : Statement (.getConfiguration rt v i l) := fun _ _ => rfl

theorem setConfiguration (rt v h : Byte) (i l : Half) : Statement (.setConfiguration rt v h i l) := fun _ _ => rfl

theorem getInterface (rt : Byte) (v i l : Half) : Statement (.getInterface rt v i l) := fun _ _ => rfl

theorem setInterface (rt : Byte) (v i l : Half) : Statement (.setInterface rt v i l) := fun _ _ => rfl

theorem syncFrame (rt : Byte) (v i l : Half) : Statement (.syncFrame rt v i l) := fun _ _ => rfl

theorem unknownRequest (rt b : Byte) (v i l : Half) : Statement (.unknownRequest rt b v i l) := fun _ _ => rfl

theorem frameDeviceInfo (a b d : Word) (p : Bytes) : Statement (.frameDeviceInfo a b d p) := fun _ h =>
  frameBytes_length _ _ _ _ _ (by simpa [wellFormed] using h)

theorem frameSetupWrite (a b d : Word) (p : Bytes) : Statement (.frameSetupWrite a b d p) := fun _ h =>
  frameBytes_length _ _ _ _ _ (by simpa [wellFormed] using h)

theorem frameFinishWrite (a b d : Word) (p : Bytes) : Statement (.frameFinishWrite a b d p) := fun _ h =>
  frameBytes_length _ _ _ _ _ (by simpa [wellFormed] using h)

theorem frameHardwareReset (a b d : Word) (p : Bytes) : Statement (.frameHardwareReset a b d p) := fun _ h =>
  frameBytes_length _ _ _ _ _ (by simpa [wellFormed] using h)

theorem frameAck (a b d : Word) (p : Bytes) : Statement (.frameAck a b d p) := fun _ h =>
  frameBytes_length _ _ _ _ _ (by simpa [wellFormed] using h)

end Sys2Proof.Laws.EncodedLength
end

