-- ==== Sys2Proof/Laws/Steps.lean ====
section
/-! SUPPORT. What each shared operation and each move can do, once: if it answers a next state, then
which. -/

namespace Sys2Proof.Machine

/-! ## The receive side -/

/-- DrainBank fail-stops, or it drains the bank and waits for the clear of its flag. -/
theorem drainBank_next {b : Bank} {rest : List Bank} {s t : State} (h : drainBank b rest s = .next t) :
    (frameLen < s.rxCnt + s.ep1.bankCount b ∧ t = halt .malformedFrame s)
      ∨ (s.rxCnt + s.ep1.bankCount b ≤ frameLen
        ∧ t = goto (.rxClr b rest) (requestFlag (.ep1RxBank b) .clr (appendBank b s))) := by
  unfold drainBank at h
  split at h
  · next hc => cases h; exact .inl ⟨hc, rfl⟩
  · next hc => cases h; exact .inr ⟨by omega, rfl⟩

/-- DrainBank has no other outcome than a next state. -/
theorem drainBank_completes (b : Bank) (rest : List Bank) (s : State) :
    completes (drainBank b rest s) := by
  unfold drainBank
  split <;> exact ⟨_, rfl⟩

theorem drainBanks_completes (l : List Bank) (s : State) : completes (drainBanks l s) := by
  rcases drainBanks_cases l s with h | ⟨b, rest, -, h⟩ <;> rw [h]
  · exact ⟨_, rfl⟩
  · exact drainBank_completes b rest s

theorem pollStep3_completes (v : Bool) (s : State) : completes (pollStep3 v s) := by
  rcases pollStep3_cases v s with h | h | ⟨b, rest, -, h⟩ <;> rw [h]
  · exact ⟨_, rfl⟩
  · exact ⟨_, rfl⟩
  · exact drainBank_completes b rest s

/-- The banks' tests do not read the position. -/
theorem drainBanks_seq (l : List Bank) (s : State) (q : Seq) :
    drainBanks l { s with seq := q } = drainBanks l s := by
  induction l with
  | nil => rfl
  | cons b l ih => simp only [drainBanks, ih]; rfl

theorem pollStep3_seq (v : Bool) (s : State) (q : Seq) :
    pollStep3 v { s with seq := q } = pollStep3 v s := by
  unfold pollStep3
  simp only [drainBanks_seq]
  rfl

/-! ## The transmit side -/

/-- SendControl's loop body: aborted by a flagged SETUP, or the chunk is queued. -/
theorem sendChunk_next {x : Tx} {s t : State} (h : sendChunk x s = .next t) :
    (s.ep0.rxSetup = true ∧ pollStep3 true s = .next t)
      ∨ (s.ep0.rxSetup = false ∧ s.ep0.txFifo = [] ∧ s.ep0.txTrigger = false
        ∧ ∃ chunk, nextChunk s.cfg x = some chunk ∧ t = queuedOnEp0 chunk (.ctlTx x) s) := by
  unfold sendChunk at h
  split at h
  · next hs => exact .inl ⟨hs, h⟩
  · next hs =>
    split at h
    · cases h
    · next chunk hc =>
      simp only [loadAndTrigger] at h
      split at h
      · next hq => cases h; exact .inr ⟨by simpa using hs, hq.1, hq.2, chunk, hc, rfl⟩
      · cases h

/-- SendFrame's loop: it returns to its caller, or the chunk is queued. -/
theorem sendFrameLoop_next {x : Tx} {c : Caller} {s t : State} (h : sendFrameLoop x c s = .next t) :
    (x.rem = 0 ∧ t = frameReturn c s)
      ∨ (x.rem ≠ 0 ∧ s.ep2.txFifo = [] ∧ s.ep2.txTrigger = false
        ∧ ∃ chunk, nextChunk s.cfg x = some chunk ∧ t = queuedOnEp2 chunk (.frmTx x c) s) := by
  unfold sendFrameLoop at h
  split at h
  · next hr => cases h; exact .inl ⟨hr, rfl⟩
  · next hr =>
    split at h
    · cases h
    · next chunk hc =>
      simp only [loadAndTrigger] at h
      split at h
      · next hq => cases h; exact .inr ⟨hr, hq.1, hq.2, chunk, hc, rfl⟩
      · cases h

/-! ## CONSUMER and invocations -/

theorem atDispatch_next {k : Bytes → List Bank → Result} {s t : State}
    (h : atDispatch s k = .next t) :
    ∃ frame rest, s.seq = .hold (.dispatch frame rest) ∧ k frame rest = .next t := by
  unfold atDispatch at h
  split at h
  · exact ⟨_, _, ‹_›, h⟩
  · cases h

theorem atDispatch_refused {k : Bytes → List Bank → Result} {s : State}
    (h : ∀ frame rest, s.seq ≠ .hold (.dispatch frame rest)) :
    atDispatch s k = .refused .notConsumersTurn := by
  unfold atDispatch
  split
  · next hs => exact absurd hs (h _ _)
  · rfl

theorem consumerHalt_next {r : Reason} {s t : State} (h : consumerHalt r s = .next t) :
    t = halt r s := by
  obtain ⟨_, _, _, h⟩ := atDispatch_next h
  cases r <;> cases h <;> rfl

theorem invoke_next {call : Bytes} {s t : State} (h : move (.invoke call) s = .next t) :
    ∃ i, decode s.cfg .opsel call = .ok i ∧ exec i s = .next t := by
  simp only [move, invoke] at h
  split at h
  · next i hi => exact ⟨i, hi, h⟩
  · cases h

/-! ## The ENGINE's turn -/

theorem engineStep_ready {s : State} {h : Hold} (hs : s.seq = .hold h) (hr : holdReady h s = true) :
    engineStep s = resume h s := by simp [engineStep, hs, hr]

theorem engineStep_fail {s : State} {h : Hold} (hs : s.seq = .hold h) (hr : holdReady h s = false) :
    engineStep s = .next (failedTest h s) := by simp [engineStep, hs, hr]

/-- A failed test leaves the state, counts, or fail-stops. -/
theorem failedTest_cases (h : Hold) (s : State) :
    failedTest h s = s ∨ failedTest h s = { s with spin := s.spin + 1 }
      ∨ failedTest h s = halt .handshakeStall s := by
  unfold failedTest
  split
  · exact .inl rfl
  · split
    · split
      · exact .inr (.inr rfl)
      · exact .inr (.inl rfl)
    · exact .inl rfl

/-- Reading the SETUP packet writes the latch, the EP0 FIFO and the count of free values only. -/
theorem latchSetup_eq (s : State) : ∃ p q k,
    latchSetup s = { s with setup := p, ep0 := { s.ep0 with rxFifo0 := q }, freeCount := k } := by
  unfold latchSetup
  simp only
  split
  · exact ⟨_, _, _, rfl⟩
  · exact ⟨s.setup, s.ep0.rxFifo0, s.freeCount, rfl⟩

/-! ## BUS -/

theorem busSetup_next {p : Bytes} {s t : State} (h : move (.busSetup p) s = .next t) :
    busSetupAllowed p s = true ∧ t = { s with ep0 := s.ep0.setupArrives p } := by
  simp only [move, busSetup] at h
  split at h
  · next ha => cases h; exact ⟨ha, rfl⟩
  · cases h

theorem busOut_next {b : Bank} {d : Bytes} {s t : State} (h : move (.busOut b d) s = .next t) :
    busOutAllowed b d s = true
      ∧ t = { s with ep1 := s.ep1.fillBank b d, fillNext := nextFill s } := by
  simp only [move, busOut] at h
  split at h
  · next ha => cases h; exact ⟨ha, rfl⟩
  · cases h

theorem busInAck_next {n : TxEp} {s t : State} (h : move (.busInAck n) s = .next t) :
    busInAckAllowed n s = true ∧ t = setTxEndpoint n (txEndpoint n s).taken
      (emit (.toHost n (txEndpoint n s).txFifo) s) := by
  simp only [move, busInAck] at h
  split at h
  · next ha => cases h; exact ⟨ha, rfl⟩
  · cases h

theorem reflect_next {f : Flag} {s t : State} (h : move (.reflect f) s = .next t) :
    (flagReq f s = .set ∧ t = showFlag f true s) ∨ (flagReq f s = .clr ∧ t = showFlag f false s) := by
  simp only [move, reflect] at h
  split at h
  · cases h
  · next hf => cases h; exact .inl ⟨hf, rfl⟩
  · next hf => cases h; exact .inr ⟨hf, rfl⟩

end Sys2Proof.Machine
end

