-- ==== Sys2Proof/Laws/Runs.lean ====
section
/-! SUPPORT. Runs of moves, the packets of a byte string, and one acknowledged packet. -/

namespace Sys2Proof.Machine

/-! ## Packets -/

/-- More fuel than bytes gives the same packets. -/
theorem packetsFuel_enough (n : Nat) (s : Bytes) (h : s.length ≤ n) : packetsFuel n s = packets s := by
  unfold packets
  induction n using Nat.strongRecOn generalizing s with
  | ind n ih =>
    cases n with
    | zero => simp at h; subst h; rfl
    | succ n =>
      cases s with
      | nil => rfl
      | cons b s =>
        simp only [packetsFuel, List.length_cons]
        simp only [reduceCtorEq, if_false]
        congr 1
        have e1 := ih n (by omega) ((b :: s).drop fifoDepth) (by simp [fifoDepth] at h ⊢; omega)
        have e2 : s.length < n + 1 := by simp at h; omega
        have e3 := ih s.length e2 ((b :: s).drop fifoDepth) (by simp [fifoDepth])
        rw [e1, e3]

theorem packets_nil : packets [] = [] := rfl

theorem packets_cons {s : Bytes} (h : s ≠ []) : packets s = s.take 8 :: packets (s.drop 8) := by
  rw [← packetsFuel_enough (s.length + 1) s (by omega)]
  show (if s = [] then [] else s.take 8 :: packetsFuel s.length (s.drop 8)) = _
  rw [if_neg h, packetsFuel_enough _ _ (by simp)]

theorem packets_length (s : Bytes) : (packets s).length = (s.length + 7) / 8 := by
  induction h : s.length using Nat.strongRecOn generalizing s with
  | ind n ih =>
    by_cases hs : s = []
    · subst hs; subst h; rfl
    · rw [packets_cons hs, List.length_cons, ih _ (by have := List.length_pos_iff.2 hs; simp; omega) (s.drop 8) rfl]
      have := List.length_pos_iff.2 hs
      simp; omega

theorem packets_flatten (s : Bytes) : (packets s).flatten = s := by
  induction h : s.length using Nat.strongRecOn generalizing s with
  | ind n ih =>
    by_cases hs : s = []
    · subst hs; rfl
    · rw [packets_cons hs, List.flatten_cons, ih _ (by have := List.length_pos_iff.2 hs; simp; omega) (s.drop 8) rfl]
      exact List.take_append_drop 8 s

theorem packets_mem (s : Bytes) : ∀ p ∈ packets s, p ≠ [] ∧ p.length ≤ 8 := by
  induction h : s.length using Nat.strongRecOn generalizing s with
  | ind n ih =>
    by_cases hs : s = []
    · subst hs; simp [packets_nil]
    · rw [packets_cons hs]
      intro p hp
      rcases List.mem_cons.1 hp with rfl | hp
      · refine ⟨?_, by simp⟩
        cases s <;> simp at hs ⊢
      · exact ih _ (by have := List.length_pos_iff.2 hs; simp; omega) (s.drop 8) rfl p hp

/-! ## Runs -/

theorem delivered_delivered (n : TxEp) (a b : List Bytes) (s : State) :
    delivered n b (delivered n a s) = delivered n (a ++ b) s := by
  simp [delivered]

theorem runMoves_append (l l' : List Move) (s : State) :
    runMoves (l ++ l') s = andThen (runMoves l s) (runMoves l') := by
  induction l generalizing s with
  | nil => rfl
  | cons m l ih => simp only [List.cons_append, runMoves]; cases move m s <;> simp [ih]

/-! ## One acknowledged packet: BUS takes it, the ENGINE goes on, the clear is reflected, the ENGINE goes
on -/

theorem andThen_ret (r : Result) : andThen r (fun s => .next s) = r := by cases r <;> rfl

theorem ackRound_ctl {s : State} (h : canReply s) (chunk : Bytes) (t : Tx) :
    runMoves (ackRound .ep0) (queuedOnEp0 chunk (.ctlTx t) s)
      = afterCtlAckClr t { delivered .ep0 [chunk] s with seq := .hold (.ctlAckClr t) } := by
  obtain ⟨h1, h2, q1, q2, q3, q4⟩ := h
  obtain ⟨_,_,_,_,_,_,_,_,_,ep0,_,_,_,_,_,_,_,_,_,_⟩ := s
  cases ep0
  simp only at h1 h2 q1 q2 q3 q4
  subst h1 h2 q1 q2 q3 q4
  exact andThen_ret _

theorem ackRound_zlp {s : State} (h : canReply s) (a : AfterZlp) :
    runMoves (ackRound .ep0) (queuedOnEp0 [] (.zlpTx a) s)
      = afterZlpAckClr a { delivered .ep0 [[]] s with seq := .hold (.zlpAckClr a) } := by
  obtain ⟨h1, h2, q1, q2, q3, q4⟩ := h
  obtain ⟨_,_,_,_,_,_,_,_,_,ep0,_,_,_,_,_,_,_,_,_,_⟩ := s
  cases ep0
  simp only at h1 h2 q1 q2 q3 q4
  subst h1 h2 q1 q2 q3 q4
  exact andThen_ret _

theorem ackRound_frm {s : State} (h : canSendFrame s) (chunk : Bytes) (t : Tx) (c : Caller) :
    runMoves (ackRound .ep2) (queuedOnEp2 chunk (.frmTx t c) s)
      = sendFrameLoop t.advance c { delivered .ep2 [chunk] s with seq := .hold (.frmAckClr t c) } := by
  obtain ⟨h1, q1, q2, q3, q4⟩ := h
  obtain ⟨_,_,_,_,_,_,_,_,_,_,_,ep2,_,_,_,_,_,_,_,_⟩ := s
  cases ep2
  simp only at h1 q1 q2 q3 q4
  subst h1 q1 q2 q3 q4
  exact andThen_ret _

/-! ## The packets of a data stage -/

theorem dataStagePackets_split {l : Bytes} (h : 8 < l.length) : dataStagePackets l = l.take 8 :: dataStagePackets (l.drop 8) := by
  unfold dataStagePackets
  have h1 : l ≠ [] := by rintro rfl; simp at h
  have h2 : l.drop 8 ≠ [] := by intro e; have := congrArg List.length e; simp at this; omega
  rw [if_neg h1, if_neg h2, packets_cons h1]

theorem dataStagePackets_last {l : Bytes} (h : l.length ≤ 8) : dataStagePackets l = [l] := by
  unfold dataStagePackets
  split
  · next e => rw [e]
  · next e => rw [packets_cons e, List.drop_eq_nil_of_le h, packets_nil, List.take_of_length_le h]

end Sys2Proof.Machine
end

