-- ==== Sys2Proof/Tests/Slice0.lean ====
section
/-! SUPPORT. The model's own tests: the ill-formed terms each check refuses, words written out from the
spec, one step per instruction with the result spec/95_test_vectors.md gives, and a state and operands
that meet the hypotheses of each statement. -/

namespace Sys2Proof.Tests

open Sys2Proof Sys2Proof.Machine

/-! ## WellFormed refuses -/

theorem test_wf_unknown_type : wellFormed Config.default (.getDescriptorUnknownType 0x80 0x22 0 0 0) = false := by decide
theorem test_wf_status_other : wellFormed Config.default (.getStatusOther 0xE1 0 0 2) = false := by decide
theorem test_wf_unknown_request : wellFormed Config.default (.unknownRequest 0 0x0C 0 0 0) = false := by decide
theorem test_wf_device_info : wellFormed Config.default (.frameDeviceInfo 0 0 0 (List.replicate 47 0)) = false := by decide
theorem test_wf_setup_write : wellFormed Config.default (.frameSetupWrite 0 0 0 (List.replicate 49 0)) = false := by decide
theorem test_wf_finish_write : wellFormed Config.default (.frameFinishWrite 0 0 0 []) = false := by decide
theorem test_wf_hardware_reset : wellFormed Config.default (.frameHardwareReset 0 0 0 [1]) = false := by decide
theorem test_wf_ack : wellFormed Config.default (.frameAck 0 0 0 (List.replicate 64 0)) = false := by decide

/-- A string whose first byte is not its length (20_memory.md R72), and an empty one (U12). -/
def badString (d : Bytes) : Config := { Config.default with rom := { Config.fixtureRom with strings := [d] } }

theorem test_cfg_default : Config.default.wf = true := by decide
theorem test_cfg_string_length : (badString [5, 3, 0x41, 0]).wf = false := by decide
theorem test_cfg_string_empty : (badString []).wf = false := by decide
theorem test_cfg_ep0_out : { Config.default with ep0OutFlagging := Ep0OutFlagging.bank0 }.wf = false := by decide
theorem test_cfg_codes_distinct : Config.default.codesDistinct = true := by decide

/-- A configuration with two requests under one code (assumption log 4). -/
def equalRequests : Config := { Config.default with req := { Config.defaultReq with syncFrame := 0x0B } }

theorem test_cfg_equal_requests : equalRequests.wf = true ∧ equalRequests.codesDistinct = false := by
  decide
theorem test_cfg_equal_types :
    { Config.default with dt := { Config.defaultDt with hidReport := 1 } }.codesDistinct = false := by
  decide
theorem test_cfg_equal_opcodes :
    { Config.default with op := { Config.defaultOp with ack := 0 } }.codesDistinct = false := by decide

/-- The bytes of 95_test_vectors.md section 4. -/
theorem test_fixture_descriptors :
    Config.fixtureRom.device = [0x12, 0x01, 0x10, 0x01, 0x00, 0x00, 0x00, 0x08, 0x66, 0x66, 0x01, 0x00,
      0x00, 0x01, 0x00, 0x01, 0x00, 0x01]
    ∧ Config.fixtureRom.config = [0x09, 0x02, 0x29, 0x00, 0x01, 0x01, 0x00, 0x80, 0x32,
      0x09, 0x04, 0x00, 0x00, 0x02, 0x03, 0x00, 0x00, 0x00, 0x09, 0x21, 0x00, 0x01, 0x00, 0x01, 0x22,
      0x1D, 0x00, 0x07, 0x05, 0x01, 0x03, 0x08, 0x00, 0x01, 0x07, 0x05, 0x82, 0x03, 0x08, 0x00, 0x01]
    ∧ Config.fixtureRom.hidReport = [0x06, 0x00, 0xFF, 0x09, 0x01, 0xA1, 0x01, 0x19, 0x01, 0x29, 0x40,
      0x15, 0x00, 0x26, 0xFF, 0x00, 0x75, 0x08, 0x95, 0x40, 0x81, 0x02, 0x19, 0x01, 0x29, 0x40, 0x91,
      0x02, 0xC0] := by decide

/-- The constants of R8 that are the shape of a type: the accumulator's width, the banks. -/
theorem test_shape_constants :
    BitVec crcWidth = Word ∧ ∀ o ∈ [RxBankOrder.bank0First, .bank1First],
      (Machine.bankOrder o).length = nRxBanks := ⟨rfl, by decide⟩

/-! ## Words from the spec: operations (30_encoding.md R127) -/

abbrev decodeCallWord (b : Bytes) := decode Config.default .opsel b

theorem test_decode_crc_seed : decodeCallWord [0x00] = .ok .crcSeed := by decide
theorem test_decode_crc_load : decodeCallWord [0x01, 0xA3, 0xE0, 0xE3, 0x9B] = .ok (.crcLoad 0x9BE3E0A3) := by decide
theorem test_decode_crc_feed : decodeCallWord [0x02, 0x61, 0x62] = .ok (.crcFeed [0x61, 0x62]) := by decide
theorem test_decode_crc_raw : decodeCallWord [0x03] = .ok .crcRaw := by decide
theorem test_decode_crc_final : decodeCallWord [0x04] = .ok .crcFinal := by decide
theorem test_decode_poll : decodeCallWord [0x10] = .ok .poll := by decide
theorem test_decode_send_frame : decodeCallWord [0x20, 9, 8] = .ok (.sendFrame [9, 8]) := by decide
theorem test_decode_call_errors : decodeCallWord [] = .error .emptyCall
    ∧ decodeCallWord [0x11] = .error (.unknownOpSel 0x11)
    ∧ decodeCallWord [0x10, 0] = .error (.operandLength 0x10 1)
    ∧ decodeCallWord [0x01, 0, 0, 0] = .error (.operandLength 0x01 3) := by decide

/-! ## SETUP packets (95_test_vectors.md 2.1 and 2.3) -/

abbrev decodePacket (b : Bytes) := decode Config.default .setup b

theorem test_decode_G1 : decodePacket [0x80, 0x06, 0x00, 0x01, 0x00, 0x00, 0x40, 0x00]
    = .ok (.getDescriptorDevice 0x80 0 0 0x0040) := by decide
theorem test_decode_G13 : decodePacket [0x80, 0x06, 0x03, 0x02, 0x00, 0x00, 0x28, 0x00]
    = .ok (.getDescriptorConfiguration 0x80 3 0 0x0028) := by decide
theorem test_decode_G16 : decodePacket [0x80, 0x06, 0x01, 0x03, 0x09, 0x04, 0x02, 0x00]
    = .ok (.getDescriptorString 0x80 1 0x0409 0x0002) := by decide
theorem test_decode_G19 : decodePacket [0x81, 0x06, 0x00, 0x22, 0x00, 0x00, 0x1D, 0x00]
    = .ok (.getDescriptorHidReport 0x81 0 0 0x001D) := by decide
theorem test_decode_G24 : decodePacket [0x81, 0x06, 0x00, 0x21, 0x00, 0x00, 0x09, 0x00]
    = .ok (.getDescriptorUnknownType 0x81 0x21 0 0 9) := by decide
theorem test_decode_A18 : decodePacket [0xA1, 0x00, 0x00, 0x00, 0x00, 0x00, 0x02, 0x00]
    = .ok (.getStatusInterface 1 0 0 2) := by decide
theorem test_decode_A15 : decodePacket [0x80, 0x00, 0x00, 0x00, 0x00, 0x00, 0x02, 0x00]
    = .ok (.getStatusDevice 0 0 0 2) := by decide
theorem test_decode_A17 : decodePacket [0x82, 0x00, 0x00, 0x00, 0x81, 0x00, 0x02, 0x00]
    = .ok (.getStatusEndpoint 0 0 0x0081 2) := by decide
theorem test_decode_A19 : decodePacket [0x83, 0x00, 0x00, 0x00, 0x00, 0x00, 0x02, 0x00]
    = .ok (.getStatusOther 0x83 0 0 2) := by decide
theorem test_decode_A24 : decodePacket [0x02, 0x01, 0x00, 0x00, 0x81, 0x00, 0x00, 0x00]
    = .ok (.clearFeature 0x02 0 0x0081 0) := by decide
theorem test_decode_A25 : decodePacket [0x00, 0x03, 0x01, 0x00, 0x00, 0x00, 0x00, 0x00]
    = .ok (.setFeature 0 1 0 0) := by decide
theorem test_decode_A3 : decodePacket [0x00, 0x05, 0x85, 0x01, 0x00, 0x00, 0x00, 0x00]
    = .ok (.setAddress 0 5 3 0 0) := by decide
theorem test_decode_A27 : decodePacket [0x00, 0x07, 0x00, 0x01, 0x00, 0x00, 0x12, 0x00]
    = .ok (.setDescriptor 0 0x0100 0 0x0012) := by decide
theorem test_decode_A6 : decodePacket [0x80, 0x08, 0x00, 0x00, 0x00, 0x00, 0x01, 0x00]
    = .ok (.getConfiguration 0x80 0 0 1) := by decide
theorem test_decode_A14 : decodePacket [0x21, 0x09, 0x00, 0x02, 0x00, 0x00, 0x40, 0x00]
    = .ok (.setConfiguration 0x21 0 2 0 0x0040) := by decide
theorem test_decode_A22 : decodePacket [0x21, 0x0A, 0x00, 0x00, 0x00, 0x00, 0x00, 0x00]
    = .ok (.getInterface 0x21 0 0 0) := by decide
theorem test_decode_A23 : decodePacket [0x01, 0x0B, 0x00, 0x00, 0x00, 0x00, 0x00, 0x00]
    = .ok (.setInterface 0x01 0 0 0) := by decide
theorem test_decode_A26 : decodePacket [0x82, 0x0C, 0x00, 0x00, 0x81, 0x00, 0x02, 0x00]
    = .ok (.syncFrame 0x82 0 0x0081 2) := by decide
theorem test_decode_A28 : decodePacket [0xC0, 0x33, 0x00, 0x00, 0x00, 0x00, 0x40, 0x00]
    = .ok (.unknownRequest 0xC0 0x33 0 0 0x0040) := by decide
theorem test_decode_packet_length : decodePacket [0x80, 0x06] = .error (.setupLength 2) := by decide

/-- The packed words of 95_test_vectors.md 2.1. -/
theorem test_packed_words : (Setup.mk 0x80 0x06 0x0301 0x0409 0x0002).word = 0x0002040903010680#64
    ∧ (Setup.mk 0x82 0x00 0x0000 0x0081 0x0002).word = 0x0002008100000082#64 := by decide

/-! ## Frames (30_encoding.md R121, R122) -/

/-- 12 header bytes after the opcode and 48 payload bytes 0, 1, … -/
def frameTail : Bytes := [1, 0, 0, 0, 0, 2, 0, 0, 0, 0, 3, 0] ++ (List.range 48).map (BitVec.ofNat 8)

def payload48 : Bytes := (List.range 48).map (BitVec.ofNat 8)

abbrev decodeFrameWord (b : Bytes) := decode Config.default .frame (b ++ frameTail)

theorem test_decode_device_info : decodeFrameWord [0, 0, 0, 0]
    = .ok (.frameDeviceInfo 1 0x200 0x30000 payload48) := by decide
theorem test_decode_setup_write : decodeFrameWord [1, 0, 0, 0]
    = .ok (.frameSetupWrite 1 0x200 0x30000 payload48) := by decide
theorem test_decode_finish_write : decodeFrameWord [3, 0, 0, 0]
    = .ok (.frameFinishWrite 1 0x200 0x30000 payload48) := by decide
theorem test_decode_hardware_reset : decodeFrameWord [4, 0, 0, 0]
    = .ok (.frameHardwareReset 1 0x200 0x30000 payload48) := by decide
theorem test_decode_frame_ack : decodeFrameWord [0xFF, 0, 0, 0]
    = .ok (.frameAck 1 0x200 0x30000 payload48) := by decide
theorem test_decode_frame_errors : decodeFrameWord [2, 0, 0, 0] = .error (.unknownFrameOpcode 2)
    ∧ decodeFrameWord [0, 0, 0] = .error (.frameLength 63) := by decide

/-- Words of spec/opcode_table.json, numbered as it numbers them. -/
theorem test_table_words : decodeTableWord 8 0x10 = some .poll
    ∧ decodeTableWord 64 0x0000000000050500 = some (.setAddress 0 5 0 0 0)
    ∧ decodeTableWord 32 0x00000004 = some (.frameHardwareReset 0 0 0 (List.replicate 48 0)) := by decide

/-! ## States (95_test_vectors.md, "Two start states are used") -/

def sDefault : State :=
  { State.reset with link := .default, ep0 := { Endpoint.reset with enabled := true } }

def sConfigured : State :=
  { sDefault with
    link := .configured, curCfg := 1
    ep1 := { Endpoint.reset with enabled := true, eptype := .interruptOut }
    ep2 := { Endpoint.reset with enabled := true, eptype := .interruptIn } }

/-- The request is in the latch, the handshakes are done, the ENGINE has the next move. -/
def serving (p0 p1 p2 p3 p4 p5 p6 p7 : Byte) (s : State) : State :=
  placeSetup (setupOf p0 p1 p2 p3 p4 p5 p6 p7) s

/-- A frame is at HP_DISPATCH and CONSUMER has the next move. -/
def dispatching (op : Byte) : State := placeFrame ([op, 0, 0, 0] ++ frameTail) sConfigured

/-- What a function of the state is after the step, if there is a next state. -/
def after {α : Type} (r : Result) (f : State → α) : Option α := (nextState r).map f

/-- A state whose next move is an invocation. -/
def calling (call : Bytes) (s : State) : State := placeCall call s

/-! ## One step per operation -/

theorem test_crc_seed : after (step (calling [0x00] State.reset)) (·.crcAcc) = some 0xFFFFFFFF#32 := by decide
/-- 95_test_vectors.md 1.5: the saved accumulator. -/
theorem test_crc_load : after (step (calling [0x01, 0x5C, 0x1F, 0x1C, 0x64] State.reset)) (·.crcAcc)
    = some 0x641C1F5C#32 := by decide
/-- 95_test_vectors.md 1.5: the first byte of "123456789" from the seed. -/
theorem test_crc_feed : after (step (calling [0x02, 0x31] { State.reset with crcAcc := 0xFFFFFFFF }))
    (·.crcAcc) = some 0x7C231048#32 := by decide +kernel
/-- 95_test_vectors.md 1.2: "abc". -/
theorem test_crc_feed_abc : crcFeed 0xFFFFFFFF [0x61, 0x62, 0x63] = 0xCADBBE3D#32 := by decide +kernel
/-- 95_test_vectors.md 1.3. -/
theorem test_crc_raw : after (step (calling [0x03] { State.reset with crcAcc := 0xDEBB20E3 })) (·.history)
    = some [.crcResult 0xDEBB20E3#32] := by decide
theorem test_crc_final : after (step (calling [0x04] { State.reset with crcAcc := 0xDEBB20E3 }))
    (fun t => (t.history, t.crcAcc)) = some ([.crcResult 0x2144DF1C#32], 0xDEBB20E3#32) := by decide
/-- 95_test_vectors.md 2.6 E1: the POLL that services the bus reset. -/
theorem test_poll_bus_reset :
    after (step (calling [0x10] { State.reset with busResetPending := true }))
      (fun t => (t.link, t.ep0.enabled, t.busResetPending, t.history))
    = some (.default, true, false, [.pollReturn true]) := by decide
/-- 95_test_vectors.md 2.4: the first hold of vector A7. -/
theorem test_poll_setup :
    after (step (calling [0x10] { sConfigured with ep0 := { sConfigured.ep0 with
        rxSetup := true, rxFifo0 := [0x80, 0x08, 0, 0, 0, 0, 1, 0] } }))
      (fun t => (t.seq, t.ep0.dirReq, t.ep0.rxFifo0, t.setup.bRequest))
    = some (.hold .dir, .set, [], 0x08#8) := by decide
theorem test_send_frame :
    after (step (calling [0x20, 1, 2, 3, 4, 5, 6, 7, 8, 9] sConfigured))
      (fun t => (t.ep2.txFifo, t.ep2.txTrigger, t.seq))
    = some ([1, 2, 3, 4, 5, 6, 7, 8], true,
        .hold (.frmTx ⟨.bytes [1, 2, 3, 4, 5, 6, 7, 8, 9], 0, 9⟩ .loop)) := by decide
theorem test_send_frame_busy :
    step (calling [0x20, 1] { sConfigured with seq := .hold .dir }) = .refused .engineBusy := by rfl

/-! ## One step per request (95_test_vectors.md 2.3: the first packet) -/

abbrev firstChunk (r : Result) : Option (Bytes × Bool) := after r fun t => (t.ep0.txFifo, t.ep0.txTrigger)

theorem test_G1 : firstChunk (step (serving 0x80 6 0 1 0 0 0x40 0 sDefault))
    = some ([0x12, 0x01, 0x10, 0x01, 0x00, 0x00, 0x00, 0x08], true) := by decide
theorem test_G5 : firstChunk (step (serving 0x80 6 0 1 0 0 0 0 sDefault)) = some ([], true) := by decide
theorem test_G10 : firstChunk (step (serving 0x80 6 0 2 0 0 9 0 sDefault))
    = some ([0x09, 0x02, 0x29, 0x00, 0x01, 0x01, 0x00, 0x80], true) := by decide
theorem test_G16 : firstChunk (step (serving 0x80 6 1 3 9 4 2 0 sDefault)) = some ([0x0A, 0x03], true) := by decide
theorem test_G17 : after (step (serving 0x80 6 2 3 9 4 0xFF 0 sDefault)) (·.history)
    = some [.pollReturn true] := by decide
theorem test_G19 : firstChunk (step (serving 0x81 6 0 0x22 0 0 0x1D 0 sConfigured))
    = some ([0x06, 0x00, 0xFF, 0x09, 0x01, 0xA1, 0x01, 0x19], true) := by decide
theorem test_G24 : after (step (serving 0x81 6 0 0x21 0 0 9 0 sConfigured)) (fun t => (t.seq, t.history))
    = some (.idle, [.pollReturn true]) := by decide
theorem test_A15 : firstChunk (step (serving 0x80 0 0 0 0 0 2 0 sDefault)) = some ([0, 0], true) := by decide
theorem test_A18 : firstChunk (step (serving 0xA1 0 0 0 0 0 2 0 sDefault)) = some ([0, 0], true) := by decide
theorem test_A17 : firstChunk (step (serving 0x82 0 0 0 0x81 0 2 0 sConfigured)) = some ([0, 0], true) := by decide
theorem test_A19 : after (step (serving 0x83 0 0 0 0 0 2 0 sDefault)) (·.history)
    = some [.pollReturn true] := by decide
theorem test_A20 : after (step (serving 0 0 0 0 0 0 2 0 sDefault)) (·.history)
    = some [.pollReturn true] := by decide
theorem test_A24 : after (step (serving 2 1 0 0 0x81 0 0 0 sConfigured)) (fun t => (t.seq, t.history))
    = some (.idle, [.pollReturn true]) := by decide
theorem test_A25 : after (step (serving 0 3 1 0 0 0 0 0 sDefault)) (·.history)
    = some [.pollReturn true] := by decide
theorem test_A27 : after (step (serving 0 7 0 1 0 0 0x12 0 sDefault)) (·.history)
    = some [.pollReturn true] := by decide
theorem test_A26 : after (step (serving 0x82 0x0C 0 0 0x81 0 2 0 sConfigured)) (·.history)
    = some [.pollReturn true] := by decide
theorem test_A28 : after (step (serving 0xC0 0x33 0 0 0 0 0x40 0 sDefault)) (·.history)
    = some [.pollReturn true] := by decide
/-- 95_test_vectors.md 2.4: at HP_ZLP_TX `dev_addr` is still 0. -/
theorem test_A1_waits : after (step (serving 0 5 5 0 0 0 0 0 sDefault))
    (fun t => (t.devAddr, t.link, t.ep0.txFifo, t.ep0.txTrigger)) = some (0#7, .default, [], true) := by decide
theorem test_A3_finishes :
    after (step { sDefault with seq := .hold (.zlpAckClr (.setAddress 5)) })
      (fun t => (t.devAddr, t.link, t.history)) = some (5#7, .addressed, [.pollReturn true]) := by decide
theorem test_A8 : firstChunk (step (serving 0x80 8 0 0 0 0 0 0 sConfigured)) = some ([0x01], true) := by decide
theorem test_A10 : after (step (serving 0 9 2 0 0 0 0 0 sDefault))
    (fun t => (t.curCfg, t.link, t.ep1.enabled, t.ep2.eptype)) = some (2#8, .configured, true, .interruptIn) := by
  decide
theorem test_A12 : after (step (serving 0 9 0 1 0 0 0 0 sConfigured))
    (fun t => (t.curCfg, t.link, t.ep1.enabled, t.ep2.enabled)) = some (0#8, .addressed, false, false) := by decide
theorem test_A22 : firstChunk (step (serving 0x21 0x0A 0 0 0 0 0 0 sConfigured)) = some ([0x00], true) := by decide
theorem test_A23 : after (step (serving 1 0x0B 0 0 0 0 0 0 sConfigured)) (fun t => (t.ep0.txFifo, t.seq))
    = some ([], .hold (.zlpTx .nothing)) := by decide

/-! ## One step per frame (44_environment.md R283, 30_encoding.md R124) -/

theorem test_device_info : after (step (dispatching 0)) (fun t => (t.ep2.txFifo, t.flash))
    = some ([0xFF, 0, 0, 0, 1, 0, 0, 0], []) := by decide
theorem test_setup_write : after (step (dispatching 1)) (fun t => (t.staging[4]?, t.staging[51]?, t.staging[52]?))
    = some (some 0, some 47, some 0) := by decide +kernel
/-- `ext1 = 1`: the page at 0. Bytes 240 to 255 are the last 16 payload bytes. -/
theorem test_finish_write : after (step (dispatching 3))
    (fun t => (Memory.read t.flash 0, Memory.read t.flash 240, Memory.read t.flash 255, Memory.read t.flash 256))
    = some (0, 32, 47, 0xFF) := by decide +kernel
theorem test_hardware_reset : after (step (dispatching 4)) (fun t => (t.ep2.txFifo, t.link))
    = some ([0xFF, 0, 0, 0, 1, 0, 0, 0], .configured) := by decide
theorem test_frame_ack : after (step (dispatching 0xFF)) (fun t => (t.seq, t.history))
    = some (.halted .unknownOpcode, [.halt .unknownOpcode]) := by decide

/-! ## Memory (44_environment.md R283) -/

theorem test_memory_canonical : Memory.write (Memory.write [] 7 1) 7 0xFF = []
    ∧ Memory.write (Memory.write [] 7 1) 3 2 = [(3, 2), (7, 1)] := by decide

/-! ## Good states -/

/-- A SETUP packet is pending. -/
def sPending : State :=
  { sConfigured with ep0 := { sConfigured.ep0 with
      rxSetup := true, rxCount0 := 8, rxFifo0 := [0x80, 0x08, 0, 0, 0, 0, 1, 0] } }

/-- Three bytes wait in bank 0, with `n` bytes gathered before. -/
def sBank (n : Nat) : State :=
  { sConfigured with rxCnt := n, ep1 := { sConfigured.ep1 with
      rxBank0 := true, rxCount0 := 3, rxFifo0 := [1, 2, 3] } }

/-- A frame is at HP_DISPATCH. -/
def sDispatch (op : Byte) : State :=
  { sConfigured with seq := .hold (.dispatch ([op, 0, 0, 0] ++ frameTail) []) }

/-- GET_CONFIGURATION is about to run: both handshakes are done. -/
def sRequest : State :=
  { sConfigured with
    seq := .hold .setupClr, setup := ⟨0x80, 0x08, 0, 0, 1⟩
    ep0 := { sConfigured.ep0 with dir := true } }

/-- Its one byte is queued. -/
def sQueued : State :=
  { sRequest with
    seq := .hold (.ctlTx ⟨.bytes [1], 0, 1⟩)
    ep0 := { sRequest.ep0 with txFifo := [1], txTrigger := true } }

theorem sConfigured_link : LinkOk sConfigured := by constructor <;> decide

theorem sConfigured_bank (b : Bank) : BankOk b sConfigured := by
  cases b <;> constructor <;> simp [sConfigured, sDefault, State.reset, Endpoint.reset,
    Endpoint.bankCount, Endpoint.bankReq, Endpoint.bankFlag, Endpoint.bankFifo]

theorem inv_sConfigured : Inv sConfigured := by
  refine ⟨by decide, by decide, by decide, fun h => absurd h (by decide), by decide, by decide,
    sConfigured_link, ?_, sConfigured_bank _, sConfigured_bank _, ?_, ?_, trivial⟩
  · constructor <;> simp [sConfigured, sDefault, State.reset, Endpoint.reset, pastDirection]
  · exact ⟨rfl, rfl, rfl, rfl⟩
  · exact ⟨rfl, rfl, rfl, rfl⟩

theorem inv_sPending : Inv sPending := by
  refine ⟨by decide, by decide, by decide, fun h => absurd h (by decide), by decide, by decide,
    ?_, ?_, ?_, ?_, ?_, ?_, trivial⟩
  · constructor <;> decide
  · constructor <;> simp [sPending, sConfigured, sDefault, State.reset, Endpoint.reset, pastDirection]
  · have h := sConfigured_bank .b0; exact ⟨h.1, h.2, h.3, h.4, h.5⟩
  · have h := sConfigured_bank .b1; exact ⟨h.1, h.2, h.3, h.4, h.5⟩
  · exact ⟨rfl, rfl, rfl, rfl⟩
  · exact ⟨rfl, rfl, rfl, rfl⟩

theorem inv_sBank {n : Nat} (hn : n < 64) : Inv (sBank n) := by
  have c := inv_sConfigured
  refine ⟨c.cfg, c.flash, Nat.le_of_lt hn, fun h => absurd (show n = 64 from h) (by omega), c.ep0Fifo,
    c.ep2Fifo, ?_, ?_, ?_, ?_, ⟨rfl, rfl, rfl, rfl⟩, ⟨rfl, rfl, rfl, rfl⟩, trivial⟩
  · have h := sConfigured_link; exact ⟨h.1, h.2, h.3, h.4, h.5, h.6, h.7, h.8, h.9⟩
  · have h := inv_sConfigured.setup; exact ⟨h.1, h.2, h.3, h.4, h.5, h.6, h.7, h.8, h.9, h.10⟩
  · constructor <;> simp [sBank, sConfigured, sDefault, State.reset, Endpoint.reset, fifoDepth,
      Endpoint.bankCount, Endpoint.bankReq, Endpoint.bankFlag, Endpoint.bankFifo]
  · have h := sConfigured_bank .b1; exact ⟨h.1, h.2, h.3, h.4, h.5⟩

theorem inv_sDispatch (op : Byte) : Inv (sDispatch op) := by
  have c := inv_sConfigured
  refine ⟨c.cfg, c.flash, c.rxCnt_le, fun h => absurd (show (0 : Nat) = 64 from h) (by decide), c.ep0Fifo,
    c.ep2Fifo, ?_, ?_, ?_, ?_, ⟨rfl, rfl, rfl, rfl⟩, ⟨rfl, rfl, rfl, rfl⟩, ?_⟩
  · have h := sConfigured_link; exact ⟨h.1, h.2, h.3, h.4, h.5, h.6, h.7, h.8, h.9⟩
  · constructor <;> simp [sDispatch, sConfigured, sDefault, State.reset, Endpoint.reset, pastDirection]
  · have h := sConfigured_bank .b0; exact ⟨h.1, h.2, h.3, fun e => absurd e (show ¬ Req.none = .clr by decide), h.5⟩
  · have h := sConfigured_bank .b1; exact ⟨h.1, h.2, h.3, fun e => absurd e (show ¬ Req.none = .clr by decide), h.5⟩
  · show _ = _; simp [frameTail, frameLen]

theorem inv_sRequest : Inv sRequest := by
  refine ⟨by decide, by decide, by decide, fun h => absurd h (by decide), by decide, by decide,
    ?_, ?_, ?_, ?_, ⟨rfl, rfl, rfl, rfl⟩, ⟨rfl, rfl, rfl, rfl⟩, trivial⟩
  · have h := sConfigured_link; exact ⟨h.1, h.2, h.3, h.4, h.5, h.6, h.7, h.8, h.9⟩
  · constructor <;> simp [sRequest, sConfigured, sDefault, State.reset, Endpoint.reset]
  · have h := sConfigured_bank .b0; exact ⟨h.1, h.2, h.3, fun e => absurd e (by decide), h.5⟩
  · have h := sConfigured_bank .b1; exact ⟨h.1, h.2, h.3, fun e => absurd e (by decide), h.5⟩

theorem inv_sQueued : Inv sQueued := by
  refine ⟨by decide, by decide, by decide, fun h => absurd h (by decide), by decide, by decide,
    ?_, ?_, ?_, ?_, ?_, ⟨rfl, rfl, rfl, rfl⟩, ?_⟩
  · have h := sConfigured_link; exact ⟨h.1, h.2, h.3, h.4, h.5, h.6, h.7, h.8, h.9⟩
  · constructor <;> simp [sQueued, sRequest, sConfigured, sDefault, State.reset, Endpoint.reset]
  · have h := sConfigured_bank .b0; exact ⟨h.1, h.2, h.3, fun e => absurd e (by decide), h.5⟩
  · have h := sConfigured_bank .b1; exact ⟨h.1, h.2, h.3, fun e => absurd e (by decide), h.5⟩
  · exact ⟨rfl, .inl ⟨rfl, rfl⟩⟩
  · show _ ≤ _; decide

theorem canReply_sConfigured : canReply sConfigured := ⟨rfl, rfl, rfl, rfl, rfl, rfl⟩
theorem canSendFrame_sConfigured : canSendFrame sConfigured := ⟨rfl, rfl, rfl, rfl, rfl⟩
theorem canReceive_sConfigured : canReceive sConfigured := ⟨rfl, rfl, rfl, rfl, rfl, rfl, rfl, rfl⟩

/-- A state of the power-on class. -/
theorem powerOn_reset : PowerOn State.reset := by
  constructor <;> rfl

/-! ## Witnesses: for each statement with hypotheses, a state and operands that meet them together -/

theorem test_witness_RestartStateIsQuiet :
    PowerOn State.reset ∧ isBusMove (.busOut .b0 []) = true ∧ Move.busOut .b0 [] ≠ .busReset :=
  ⟨powerOn_reset, rfl, by decide⟩

theorem test_witness_DecodeOfEncodeIsTheInstruction :
    Config.default.codesDistinct = true ∧ wellFormed Config.default (.getStatusOther 0x83 0 0 2) = true
      ∧ wellFormed Config.default (.unknownRequest 0 0x0D 0 0 0) = true
      ∧ wellFormed Config.default (.frameAck 1 2 3 payload48) = true := by decide

theorem test_witness_EncodeOfDecodeIsTheWord :
    decode Config.default .opsel [0x20, 1] = .ok (.sendFrame [1]) := by decide

/-- Codes and types just outside their lists, and every recipient class. -/
theorem test_witness_RequestCodesSelectRequests :
    Config.default.codesDistinct = true ∧ 0x02#8 ∉ Config.default.req.toList ∧ 0x0D#8 ∉ Config.default.req.toList
      ∧ highByte 0x0100 = Config.default.dt.device ∧ highByte 0x0200 = Config.default.dt.configuration
      ∧ highByte 0x03FF = Config.default.dt.string ∧ highByte 0x2200 = Config.default.dt.hidReport
      ∧ highByte 0x0400 ∉ Config.default.dt.toList ∧ highByte 0x00FF ∉ Config.default.dt.toList
      ∧ ((0xE0#8).getLsbD 7 = true ∧ (0xE0#8).extractLsb' 0 5 = 0#5)
      ∧ ((0x81#8).getLsbD 7 = true ∧ (0x81#8).extractLsb' 0 5 = 1#5)
      ∧ ((0x82#8).getLsbD 7 = true ∧ (0x82#8).extractLsb' 0 5 = 2#5)
      ∧ (0x02#8).getLsbD 7 = false ∧ 2 < ((0x83#8).extractLsb' 0 5).toNat := by decide

/-- Pairs of packets that agree on what the rule reads and differ elsewhere: SET_CONFIGURATION,
SET_ADDRESS, GET_CONFIGURATION, GET_DESCRIPTOR of a known and an unknown type, GET_STATUS. -/
theorem test_witness_OnlySelectingFieldsMatter :
    (0x0101#16).extractLsb' 0 8 = (0xFF01#16).extractLsb' 0 8
    ∧ (0x0085#16).extractLsb' 0 7 = (0xFF05#16).extractLsb' 0 7
    ∧ 8#8 ∉ [Config.default.req.getStatus, Config.default.req.getDescriptor,
      Config.default.req.setAddress, Config.default.req.setConfiguration]
    ∧ ((0x0100#16).extractLsb' 8 8 = (0x01FF#16).extractLsb' 8 8
      ∧ (0x0100#16).extractLsb' 8 8 ∈ Config.default.dt.toList
      ∧ (0x0100#16).extractLsb' 8 8 ≠ Config.default.dt.string)
    ∧ (0x0400#16).extractLsb' 8 8 ∉ Config.default.dt.toList
    ∧ ((0x80#8).getLsbD 7 = (0xE0#8).getLsbD 7
      ∧ (0x80#8).extractLsb' 0 5 = (0xE0#8).extractLsb' 0 5) := by decide

theorem test_witness_StepMakesTheNextMove :
    State.reset.cfg.wf = true ∧ { State.reset with cfg := badString [] }.cfg.wf = false := by decide

/-- One state for each of the three places where an instruction is fetched. -/
theorem test_witness_StepRunsTheDecodedInstruction :
    ((calling [0x10] State.reset).script = .invoke [0x10] :: []
        ∧ decode Config.default .opsel [0x10] = .ok .poll)
    ∧ ((serving 0 5 5 0 0 0 0 0 sDefault).script = .engine :: []
        ∧ (serving 0 5 5 0 0 0 0 0 sDefault).seq = .hold .setupClr
        ∧ (serving 0 5 5 0 0 0 0 0 sDefault).ep0.rxSetup = false
        ∧ decode Config.default .setup (serving 0 5 5 0 0 0 0 0 sDefault).setup.toBytes
          = .ok (.setAddress 0 5 0 0 0))
    ∧ ((dispatching 4).script = .serveFrame :: []
        ∧ (dispatching 4).seq = .hold (.dispatch ([4, 0, 0, 0] ++ frameTail) [])
        ∧ decode Config.default .frame ([4, 0, 0, 0] ++ frameTail)
          = .ok (.frameHardwareReset 1 0x200 0x30000 payload48)) := by decide

theorem test_witness_CrcUnitSharesNoState :
    ((calling [0x03] State.reset).cfg.wf = true ∧ (calling [0x03] sConfigured).cfg.wf = true
        ∧ (calling [0x03] State.reset).crcAcc = (calling [0x03] sConfigured).crcAcc
        ∧ (calling [0x03] State.reset).link ≠ (calling [0x03] sConfigured).link
        ∧ (calling [0x03] State.reset).script = .invoke [0x03] :: []
        ∧ (calling [0x03] sConfigured).script = .invoke [0x03] :: []
        ∧ decode Config.default .opsel [0x03] = .ok .crcRaw
        ∧ Instr.crcRaw ∈ [Instr.crcSeed, .crcRaw, .crcFinal])
    ∧ (¬ crcCallNext (calling [0x10] State.reset) ∧ ¬ restartNext (calling [0x10] State.reset)) := by
  refine ⟨by decide, ?_, show Move.invoke [0x10] ≠ .restart by decide⟩
  rintro ⟨op, operands, h, hop⟩
  have h : Move.invoke [0x10] = .invoke (op :: operands) := h
  injection h with h
  injection h with h _
  subst h
  exact absurd hop (by decide)

theorem test_witness_PollServicesBusReset :
    { State.reset with busResetPending := true }.seq = .idle
      ∧ { State.reset with busResetPending := true }.busResetPending = true := by decide

/-- An IN and an OUT packet; the two handshakes, before and after they complete. -/
theorem test_witness_SetupHandlerLatchesAndHandshakes :
    (sPending.seq = .idle ∧ sPending.busResetPending = false ∧ sPending.ep0.rxSetup = true
        ∧ sPending.ep0.rxFifo0 = [0x80, 0x08, 0, 0, 0, 0, 1, 0] ∧ (0x80#8).getLsbD 7 = true
        ∧ (0x7F#8).getLsbD 7 = false)
    ∧ ({ sPending with seq := Seq.hold .dir }.seq = .hold .dir
        ∧ { sPending with seq := Seq.hold .dir }.ep0.dir = false
        ∧ { sRequest with seq := Seq.hold .dir }.ep0.dir = true ∧ sPending.cfg.spinCap = none)
    ∧ (sRequest.seq = .hold .setupClr ∧ sRequest.ep0.rxSetup = false
        ∧ { sPending with seq := Seq.hold .setupClr }.ep0.rxSetup = true)
    ∧ Inv sPending :=
  ⟨by decide, by decide, by decide, inv_sPending⟩

theorem test_witness_PollTestsEp1LastAndReturns :
    sConfigured.seq = .idle ∧ sConfigured.busResetPending = false ∧ sConfigured.ep0.rxSetup = false
      ∧ sConfigured.ep1.rxBank0 = false ∧ sConfigured.ep1.rxBank1 = false
      ∧ ep1Pending sConfigured = false ∧ ep1Pending (sBank 0) = true := by decide

theorem test_witness_OperationsRefusedWhileBusy :
    sRequest.seq ≠ .idle ∧ ∀ frame rest, sRequest.seq ≠ .hold (.dispatch frame rest) :=
  ⟨by decide, fun _ _ h => by cases h⟩

/-- The boundary: 61 + 3 bytes fit, 62 + 3 overflow; full packets at 56. -/
theorem test_witness_DrainBankAppendsAndClears :
    ((sBank 62).rxCnt + (sBank 62).ep1.bankCount .b0 > 64
        ∧ (sBank 61).rxCnt + (sBank 61).ep1.bankCount .b0 ≤ 64
        ∧ ((sBank 61).ep1.bankFifo .b0).length = (sBank 61).ep1.bankCount .b0)
    ∧ (∃ s : State, s.ep1.bankCount .b0 = 8 ∧ s.rxCnt % 8 = 0 ∧ s.rxCnt < 64 ∧ s.rxCnt = 56)
    ∧ (∀ v n, ∃ s : State, s.seq = .hold (.rxClr .b0 [.b1]) ∧ s.ep1.bankFlag .b0 = v ∧ s.rxCnt = n
        ∧ s.cfg.spinCap = none) :=
  ⟨by decide,
    ⟨{ sBank 56 with ep1 := { sConfigured.ep1 with rxCount0 := 8 } }, by decide⟩,
    fun v n => ⟨{ sConfigured with
        seq := .hold (.rxClr .b0 [.b1]), rxCnt := n
        ep1 := { sConfigured.ep1 with rxBank0 := v } }, rfl, rfl, rfl, rfl⟩⟩

theorem test_witness_BanksAreTestedWhenTheirTurnComes :
    (sBank 0).ep1.bankFlag .b0 = true ∧ (sBank 0).ep1.bankFlag .b1 = false
      ∧ (∃ s : State, s.seq = .hold (.rxClr .b1 []) ∧ s.ep1.bankFlag .b1 = false ∧ s.rxCnt < 64 ∧ s.rxCnt = 63)
      ∧ (sDispatch 0).seq = .hold (.dispatch ([0, 0, 0, 0] ++ frameTail) []) :=
  ⟨rfl, rfl, ⟨{ sBank 63 with seq := .hold (.rxClr .b1 []) }, by decide⟩, rfl⟩

theorem test_witness_PollDrainsThePendingBank :
    Inv (sBank 61) ∧ Inv (sBank 62)
      ∧ ((sBank 61).seq = .idle ∧ (sBank 61).busResetPending = false ∧ (sBank 61).ep0.rxSetup = false
        ∧ bankOrder (sBank 61).cfg.rxBankOrder = [] ++ .b0 :: [.b1]
        ∧ (∀ b ∈ ([] : List Bank), (sBank 61).ep1.bankFlag b = false)
        ∧ (sBank 61).ep1.bankFlag .b0 = true)
      ∧ (sBank 61).rxCnt + (sBank 61).ep1.bankCount .b0 ≤ 64
      ∧ 64 < (sBank 62).rxCnt + (sBank 62).ep1.bankCount .b0 :=
  ⟨inv_sBank (by decide), inv_sBank (by decide), by decide, by decide, by decide⟩

/-- Seven packets of eight bytes and an eighth. -/
theorem test_witness_FramesAreReassembledFromPackets :
    canReceive sConfigured
      ∧ sConfigured.rxCnt = 0 ∧ sConfigured.cfg.bankFillPolicy = .any
      ∧ (∀ p ∈ List.replicate 7 (Bank.b0, List.replicate 8 (0 : Byte)), p.2.length ≤ 8)
      ∧ (List.replicate 8 (1 : Byte)).length ≤ 8
      ∧ (packetBytes (List.replicate 7 (Bank.b0, List.replicate 8 (0 : Byte)))).length < 64
      ∧ (packetBytes (List.replicate 7 (Bank.b0, List.replicate 8 (0 : Byte)))).length
        + (List.replicate 8 (1 : Byte)).length = 64 :=
  ⟨canReceive_sConfigured, by decide⟩

theorem test_witness_GetDescriptorSendsTheClippedDescriptor :
    canReply sConfigured ∧ ep1Pending sConfigured = false
      ∧ (Instr.getDescriptorDevice 0x80 0 0 0x12, Src.romDevice)
        ∈ [(Instr.getDescriptorDevice 0x80 0 0 0x12, Src.romDevice)]
      ∧ (Setup.mk 0x80 6 0x0100 0 0).word &&& 0x00000000FF00FF00 = 0x0000000001000600
      ∧ (Setup.mk 0x80 6 0x02FF 0 0).word &&& 0x00000000FF00FF00 = 0x0000000002000600
      ∧ (Setup.mk 0x81 6 0x2200 0 0).word &&& 0x00000000FF00FF00 = 0x0000000022000600 :=
  ⟨canReply_sConfigured, by decide⟩

/-- String 1 is the last of the table, index 2 is past it. -/
theorem test_witness_GetDescriptorStringSendsTheString :
    canReply sConfigured ∧ sConfigured.cfg.wf = true ∧ ep1Pending sConfigured = false
      ∧ sConfigured.cfg.rom.strings[(1#8).toNat]?
        = some [0x0A, 0x03, 0x46, 0x00, 0x50, 0x00, 0x47, 0x00, 0x41, 0x00]
      ∧ sConfigured.cfg.rom.strings.length ≤ (2#8).toNat
      ∧ (Setup.mk 0x80 6 0x0301 0x0409 2).word &&& 0x00000000FF00FF00 = 0x0000000003000600 :=
  ⟨canReply_sConfigured, by decide⟩

/-- Recipients 0 to 2 qualify, 3 does not, and no OUT packet does. -/
theorem test_witness_FixedRepliesAreSentWhole :
    canReply sConfigured ∧ ep1Pending sConfigured = false
      ∧ (Setup.mk 0x80 8 0 0 1).word &&& 0x000000000000FF00 = 0x0000000000000800
      ∧ (Setup.mk 0x81 10 0 0 1).word &&& 0x000000000000FF00 = 0x0000000000000A00
      ∧ (Setup.mk 0x82 0 0 0 2).word &&& 0x000000000000FF00 = 0
      ∧ ((0x82#8).getLsbD 7 = true ∧ ((0x82#8).extractLsb' 0 5).toNat ≤ 2)
      ∧ ¬ ((0x83#8).getLsbD 7 = true ∧ ((0x83#8).extractLsb' 0 5).toNat ≤ 2)
      ∧ ¬ ((0x02#8).getLsbD 7 = true ∧ ((0x02#8).extractLsb' 0 5).toNat ≤ 2) :=
  ⟨canReply_sConfigured, by decide⟩

theorem test_witness_SetInterfaceSendsZeroLengthStatus :
    canReply sConfigured ∧ ep1Pending sConfigured = false
      ∧ (Setup.mk 1 11 0 0 0).word &&& 0x000000000000FF00 = 0x0000000000000B00 :=
  ⟨canReply_sConfigured, by decide⟩

/-- Address 0 and address 127 (95_test_vectors.md A2, A4). -/
theorem test_witness_SetAddressTakesEffectAfterItsStatus :
    canReply sConfigured ∧ ep1Pending sConfigured = false
      ∧ (Setup.mk 0 5 0x007F 0 0).word &&& 0x000000000000FF00 = 0x0000000000000500
      ∧ (Setup.mk 0 5 0x0080 0 0).wValue.extractLsb' 0 7 = 0#7 :=
  ⟨canReply_sConfigured, by decide⟩

/-- Value 0 and a value that is not 0 (95_test_vectors.md A11, A12). -/
theorem test_witness_SetConfigurationSwitchesTheEndpoints :
    canReply sConfigured ∧ ep1Pending sConfigured = false
      ∧ (Setup.mk 0 9 0x00FF 0 0).word &&& 0x000000000000FF00 = 0x0000000000000900
      ∧ (Setup.mk 0 9 0x0100 0 0).wValue.extractLsb' 0 8 = 0#8 :=
  ⟨canReply_sConfigured, by decide⟩

theorem test_witness_SilentRequestsDoNothing :
    ep1Pending sConfigured = false
      ∧ (Setup.mk 2 1 0 0 0).word &&& 0x000000000000FF00 = 0x0000000000000100
      ∧ (Setup.mk 0 3 0 0 0).word &&& 0x000000000000FF00 = 0x0000000000000300
      ∧ (Setup.mk 0 12 0 0 0).word &&& 0x000000000000FF00 = 0x0000000000000C00
      ∧ (Setup.mk 0 7 0 0 0).word &&& 0x000000000000FF00 = 0x0000000000000700
      ∧ (0x0D#8) ∉ Config.default.req.toList ∧ Config.default.codesDistinct = true
      ∧ (0x06#8) = Config.default.req.getDescriptor
      ∧ (0x0400#16).extractLsb' 8 8 ∉ Config.default.dt.toList := by decide

theorem test_witness_SendControlDeliversEveryByte :
    canReply sConfigured ∧ 41 ≤ (srcBytes sConfigured.cfg .romConfig).length :=
  ⟨canReply_sConfigured, by decide⟩

theorem test_witness_NewSetupAbortsTheDataStage :
    (∃ s : State, s.ep0.rxSetup = true ∧ s.seq = .hold (.ctlTx ⟨.romDevice, 0, 18⟩)
        ∧ ep1Pending s = false)
    ∧ (∃ s : State, s.ep0.rxSetup = true ∧ s.seq = .hold (.ctlAckClr ⟨.romDevice, 0, 18⟩)
        ∧ s.ep0.txAcked = false)
    ∧ (∀ v, ∃ s : State, s.seq = .hold (.ctlTx ⟨.romDevice, 0, 18⟩) ∧ s.ep0.rxSetup = false
        ∧ s.ep0.txAcked = v ∧ s.cfg.spinCap = none) :=
  ⟨⟨{ sPending with seq := .hold (.ctlTx ⟨.romDevice, 0, 18⟩) }, by decide⟩,
    ⟨{ sPending with seq := .hold (.ctlAckClr ⟨.romDevice, 0, 18⟩) }, by decide⟩,
    fun v => ⟨{ sConfigured with
        seq := .hold (.ctlTx ⟨.romDevice, 0, 18⟩)
        ep0 := { sConfigured.ep0 with txAcked := v } }, rfl, rfl, rfl, rfl⟩⟩

theorem test_witness_SendFrameStartsForItsTwoCallers :
    sConfigured.seq = .idle ∧ sConfigured.ep2.txQuiet ∧ (List.replicate 65 (0 : Byte)) ≠ []
      ∧ (sDispatch 0).seq = .hold (.dispatch ([0, 0, 0, 0] ++ frameTail) []) ∧ (sDispatch 0).ep2.txQuiet :=
  ⟨rfl, ⟨rfl, rfl, rfl, rfl⟩, by decide, rfl, ⟨rfl, rfl, rfl, rfl⟩⟩

theorem test_witness_SendFrameDeliversEveryByte :
    (canSendFrame sConfigured ∧ sConfigured.seq = .idle)
      ∧ (canSendFrame (sDispatch 0) ∧ ∃ frame rest, (sDispatch 0).seq = .hold (.dispatch frame rest)) :=
  ⟨⟨canSendFrame_sConfigured, rfl⟩, ⟨rfl, rfl, rfl, rfl, rfl⟩, _, _, rfl⟩

theorem test_witness_FailStopsHaltPrecisely :
    (sBank 62).rxCnt + (sBank 62).ep1.bankCount .b0 > 64
      ∧ (∃ s : State, s.seq = .hold (.dispatch [] []) ∧ ([] : Bytes).length ≠ 64)
      ∧ (payload48.length = 48 ∧ (∃ s : State, s.seq = .hold (.dispatch (frameBytes 2 1 2 3 payload48) []))
        ∧ 2#32 ∉ [Config.default.op.deviceInfo, Config.default.op.setupWrite, Config.default.op.finishWrite,
          Config.default.op.hardwareReset])
      ∧ (Reason.malformedFrame ≠ .handshakeStall ∧ Reason.unknownOpcode ≠ .handshakeStall)
      ∧ Inv (sDispatch 0) ∧ (sDispatch 0).seq = .hold (.dispatch ([0, 0, 0, 0] ++ frameTail) []) :=
  ⟨by decide, ⟨{ sConfigured with seq := .hold (.dispatch [] []) }, rfl, by decide⟩,
    ⟨by decide, ⟨{ sConfigured with seq := .hold (.dispatch _ []) }, rfl⟩, by decide⟩, by decide,
    inv_sDispatch 0, rfl⟩

theorem test_witness_SpinCapBoundsEveryHold :
    (sQueued.seq = .hold (.ctlTx ⟨.bytes [1], 0, 1⟩) ∧ holdReady (.ctlTx ⟨.bytes [1], 0, 1⟩) sQueued = false
        ∧ sQueued.cfg.spinCap = none)
      ∧ (∃ s : State, s.seq = .hold (.ctlTx ⟨.bytes [1], 0, 1⟩)
        ∧ holdReady (.ctlTx ⟨.bytes [1], 0, 1⟩) s = false ∧ s.cfg.spinCap = some (0 + 1)
        ∧ stallable (.ctlTx ⟨.bytes [1], 0, 1⟩) = true ∧ s.spin = 0) :=
  ⟨by decide, ⟨{ sQueued with cfg := { Config.default with spinCap := some 1 } }, by decide⟩⟩

theorem test_witness_HaltedIsLeftOnlyByRestart :
    (∃ s : State, s.seq = .halted .handshakeStall ∧ ¬ restartNext s ∧ completes (step s)) :=
  ⟨{ sConfigured with seq := .halted .handshakeStall }, rfl, show Move.engine ≠ .restart by decide, ⟨_, rfl⟩⟩

/-- A read flag with its clear outstanding, and a move of BUS that leaves it alone. -/
theorem test_witness_BusTouchesOnlyWhatItMay :
    flagReq (.ep1RxBank .b0) (requestFlag (.ep1RxBank .b0) .clr (sBank 0)) ≠ .none
      ∧ isBusMove (.busOut .b1 [7]) = true ∧ Move.busOut .b1 [7] ≠ .reflect (.ep1RxBank .b0)
      ∧ (∀ p, Move.busOut .b1 [7] ≠ .busSetup p)
      ∧ completes (move (.busOut .b1 [7]) (requestFlag (.ep1RxBank .b0) .clr (sBank 0)))
      ∧ completes (move .busReset { sConfigured with busResetPending := true }) :=
  ⟨by decide, rfl, by decide, (fun _ h => by cases h), ⟨_, rfl⟩, ⟨_, rfl⟩⟩

theorem test_witness_HoldsAreLiftedOnlyByTheirMoves :
    (Inv sQueued ∧ sQueued.seq = .hold (.ctlTx ⟨.bytes [1], 0, 1⟩)
        ∧ holdReady (.ctlTx ⟨.bytes [1], 0, 1⟩) sQueued = false
        ∧ ∃ t, move (.busInAck .ep0) sQueued = .next t ∧ t.seq = .hold (.ctlTx ⟨.bytes [1], 0, 1⟩)
          ∧ holdReady (.ctlTx ⟨.bytes [1], 0, 1⟩) t = true)
      ∧ ((sDispatch 0).seq = .hold (.dispatch ([0, 0, 0, 0] ++ frameTail) [])
        ∧ ∃ t, move .serveFrame (sDispatch 0) = .next t ∧ t.seq ≠ (sDispatch 0).seq)
      ∧ Reason.unknownOpcode ≠ .handshakeStall :=
  ⟨⟨inv_sQueued, rfl, rfl, _, rfl, rfl, rfl⟩, ⟨rfl, _, rfl, fun h => by cases h⟩, by decide⟩

/-- The state and operands of the frame statements. -/
theorem test_witness_DeviceInfoAndHardwareResetOnlyReply :
    payload48.length = 48 ∧ (sDispatch 0).seq = .hold (.dispatch ([0, 0, 0, 0] ++ frameTail) [])
      ∧ (sDispatch 0).ep2.txQuiet :=
  ⟨by decide, rfl, rfl, rfl, rfl, rfl⟩

/-- The last offset inside the staging area is 52 words; at 53 the payload runs past it. -/
theorem test_witness_SetupWriteStagesItsPayload :
    payload48.length = 48 ∧ (sDispatch 1).seq = .hold (.dispatch ([1, 0, 0, 0] ++ frameTail) [])
      ∧ (sDispatch 1).ep2.txQuiet ∧ 4 * (52#32).toNat + 48 ≤ 256 ∧ ¬ 4 * (53#32).toNat + 48 ≤ 256 :=
  ⟨by decide, rfl, ⟨rfl, rfl, rfl, rfl⟩, by decide, by decide⟩

theorem test_witness_FinishWriteProgramsThePage :
    payload48.length = 48 ∧ (sDispatch 3).seq = .hold (.dispatch ([3, 0, 0, 0] ++ frameTail) [])
      ∧ (sDispatch 3).ep2.txQuiet ∧ Memory.wf (sDispatch 3).flash :=
  ⟨by decide, rfl, ⟨rfl, rfl, rfl, rfl⟩, by decide⟩

theorem test_witness_AckFrameIsAnUnknownCommand :
    (sDispatch 0xFF).seq = .hold (.dispatch ([0xFF, 0, 0, 0] ++ frameTail) [])
      ∧ ∀ frame rest, sConfigured.seq ≠ .hold (.dispatch frame rest) :=
  ⟨rfl, fun _ _ h => by cases h⟩

theorem test_witness_AckEchoLaw :
    payload48.length = 48 ∧ ∃ s : State, canSendFrame s
      ∧ s.seq = .hold (.dispatch (frameBytes 4 1 2 3 payload48) [])
      ∧ 4#32 ∈ [s.cfg.op.deviceInfo, s.cfg.op.setupWrite, s.cfg.op.finishWrite, s.cfg.op.hardwareReset] :=
  ⟨by decide, { sConfigured with seq := .hold (.dispatch (frameBytes 4 1 2 3 payload48) []) },
    ⟨rfl, rfl, rfl, rfl, rfl⟩, rfl, by decide⟩

theorem test_witness_StepKeepsTheInvariant : Inv sRequest ∧ completes (step sRequest) :=
  ⟨inv_sRequest, _, rfl⟩

theorem test_witness_GoodStatesNeverFault : Inv (sDispatch 3) := inv_sDispatch 3

/-- One step for each way in which the link-level registers change. -/
theorem test_witness_LinkTransitionsAreComplete :
    (busResetServiceNext (calling [0x10] { State.reset with busResetPending := true })
        ∧ completes (step (calling [0x10] { State.reset with busResetPending := true })))
      ∧ (setAddressNext 5 { sDefault with seq := .hold (.zlpAckClr (.setAddress 5)) }
        ∧ completes (step { sDefault with seq := .hold (.zlpAckClr (.setAddress 5)) }))
      ∧ (setConfigurationNext 2 (serving 0 9 2 0 0 0 0 0 sDefault)
        ∧ completes (step (serving 0 9 2 0 0 0 0 0 sDefault)))
      ∧ (restartNext { sConfigured with script := [.restart] }
        ∧ completes (step { sConfigured with script := [.restart] })) :=
  ⟨⟨⟨rfl, rfl, rfl⟩, _, rfl⟩, ⟨⟨rfl, rfl, rfl⟩, _, rfl⟩,
    ⟨⟨rfl, rfl, rfl, 0, 0, 0, 0, rfl⟩, _, rfl⟩, ⟨rfl, _, rfl⟩⟩

theorem test_witness_EnablesFollowTheConfiguration :
    sConfigured.ep1.enabled = sConfigured.ep2.enabled
      ∧ (sConfigured.curCfg ≠ 0 ↔ sConfigured.ep1.enabled = true ∧ sConfigured.ep2.enabled = true)
      ∧ completes (step sConfigured) :=
  ⟨by decide, by decide, _, rfl⟩

theorem test_witness_HistoryGrowsAndRomIsNeverWritten : completes (step (calling [0x03] sConfigured)) := ⟨_, rfl⟩

/-- The events a step adds. -/
def added (s : State) : Option (List Event) := after (step s) fun t => t.history.drop s.history.length

/-- A step for each kind of event and each fail-stop: CRC_RAW, a POLL that finds nothing, a packet taken,
a packet past 64 bytes, an unknown opcode, a capped hold. -/
theorem test_witness_EventsHaveTheirCauses :
    added (calling [0x03] sConfigured) = some [.crcResult 0]
    ∧ added (calling [0x10] sConfigured) = some [.pollReturn false]
    ∧ added { sQueued with script := [.busInAck .ep0] } = some [.toHost .ep0 [1]]
    ∧ added (calling [0x10] (sBank 62)) = some [.halt .malformedFrame]
    ∧ added (dispatching 0xFF) = some [.halt .unknownOpcode]
    ∧ added { sQueued with cfg := { Config.default with spinCap := some 1 }, script := [.engine] }
      = some [.halt .handshakeStall] := by decide

theorem test_witness_OnlyFinishWriteChangesFlash :
    after (step (dispatching 3)) (fun t => Memory.read t.flash 0) ≠ some (Memory.read (dispatching 3).flash 0) := by
  decide +kernel

theorem test_witness_DirectionIsSetBeforeData :
    Inv sRequest ∧ ∃ t, step sRequest = .next t ∧ sRequest.ep0.txFifo = [] ∧ t.ep0.txFifo ≠ []
      ∧ directionIn t.setup.bmRequestType = true :=
  ⟨inv_sRequest, _, rfl, rfl, by decide, by decide⟩

theorem test_witness_StallsLastUntilRestart :
    ((∃ s : State, s.seq = .hold (.zlpTx .nothing)
        ∧ completes (move (.busSetup [0, 5, 5, 0, 0, 0, 0, 0]) s))
      ∧ (∃ s : State, s.cfg.spinCap = none ∧ ¬ restartNext s ∧ completes (step s)
        ∧ s.seq = .hold (.zlpTx .nothing) ∧ s.ep0.txTrigger = false ∧ s.ep0.txAcked = false
        ∧ s.ep0.txAckedReq = .none)
      ∧ (∃ s : State, s.cfg.spinCap = none ∧ ¬ restartNext s ∧ completes (step s)
        ∧ s.seq = .hold (.frmTx ⟨.bytes [1], 0, 1⟩ .loop) ∧ s.ep2.enabled = false
        ∧ s.ep2.txAcked = false ∧ s.ep2.txAckedReq = .none)) :=
  ⟨⟨{ sConfigured with seq := .hold (.zlpTx .nothing) }, rfl, _, rfl⟩,
    ⟨{ sConfigured with seq := .hold (.zlpTx .nothing) }, rfl, show Move.engine ≠ .restart by decide,
      ⟨_, rfl⟩, rfl, rfl, rfl, rfl⟩,
    ⟨{ sDefault with seq := .hold (.frmTx ⟨.bytes [1], 0, 1⟩ .loop) }, rfl,
      show Move.engine ≠ .restart by decide, ⟨_, rfl⟩, rfl, rfl,
      rfl, rfl⟩⟩

end Sys2Proof.Tests
end

section
/-! SUPPORT. The move of a step: a step of a well-formed configuration is the next move, made after
it was taken off the script (spec/00_scope.md R7). -/

namespace Sys2Proof.Machine

/-! ## The next move -/

theorem nextMove_eq_move (s : State) :
    nextMove s = move (nextMoveOf s) { s with script := s.script.tail } := by
  obtain ⟨_, _, _, _, _, _, _, _, _, _, _, _, _, _, _, _, _, _, script, _⟩ := s
  cases script <;> rfl

theorem step_of_wf {s : State} (h : s.cfg.wf = true) :
    step s = move (nextMoveOf s) { s with script := s.script.tail } := by
  rw [step, if_pos h, nextMove_eq_move]

theorem step_of_not_wf {s : State} (h : s.cfg.wf = false) :
    step s = .refused .badConfiguration := by
  rw [step, if_neg (by simp [h])]

theorem step_next {s t : State} (h : step s = .next t) :
    move (nextMoveOf s) { s with script := s.script.tail } = .next t := by
  cases hw : s.cfg.wf with
  | false => rw [step_of_not_wf hw] at h; cases h
  | true => rwa [step_of_wf hw] at h

/-- Settles O10: the step's two branches, and what `Config.wf` checks. -/
theorem stepMakesTheNextMove : Obligations.StepMakesTheNextMove :=
  fun s => ⟨step_of_wf, step_of_not_wf, s.cfg.wf_iff⟩

end Sys2Proof.Machine
end

section
/-! SUPPORT. Which bytes each operation and each frame is decoded from (spec/30_encoding.md R121,
R122, R127), and that the latch always gives a request (R112). -/

namespace Sys2Proof

/-! ## Operations -/

/-- An operation without operands is given by the call that has none. -/
theorem eq_of_withoutOperands {operands : Bytes} {i j : Instr} {e : DecodeError}
    (h : (if operands = [] then Except.ok j else .error e) = .ok i) : i = j ∧ operands = [] := by
  split at h
  · next hop => cases h; exact ⟨rfl, hop⟩
  · cases h

/-- The operations a call can decode to; those without operands have one call each. -/
theorem decode_opsel_cases {c : Config} {call : Bytes} {i : Instr}
    (h : decode c .opsel call = .ok i) :
    (i = .poll ∧ call = [0x10]) ∨ (i = .crcRaw ∧ call = [0x03]) ∨ (i = .crcFinal ∧ call = [0x04])
      ∨ (i = .crcSeed ∧ call = [0x00]) ∨ (∃ v, i = .crcLoad v) ∨ (∃ b, i = .crcFeed b)
      ∨ ∃ b, i = .sendFrame b := by
  cases call with
  | nil => cases h
  | cons op operands =>
    simp only [decode, decodeCall] at h
    -- one split per code, in the order of R127's table
    rcases ite_eq_iff.1 h with ⟨rfl, h⟩ | ⟨-, h⟩
    · obtain ⟨rfl, rfl⟩ := eq_of_withoutOperands h; simp
    rcases ite_eq_iff.1 h with ⟨rfl, h⟩ | ⟨-, h⟩
    · split at h
      · cases h; simp
      · cases h
    rcases ite_eq_iff.1 h with ⟨rfl, h⟩ | ⟨-, h⟩
    · cases h; simp
    rcases ite_eq_iff.1 h with ⟨rfl, h⟩ | ⟨-, h⟩
    · obtain ⟨rfl, rfl⟩ := eq_of_withoutOperands h; simp
    rcases ite_eq_iff.1 h with ⟨rfl, h⟩ | ⟨-, h⟩
    · obtain ⟨rfl, rfl⟩ := eq_of_withoutOperands h; simp
    rcases ite_eq_iff.1 h with ⟨rfl, h⟩ | ⟨-, h⟩
    · obtain ⟨rfl, rfl⟩ := eq_of_withoutOperands h; simp
    rcases ite_eq_iff.1 h with ⟨rfl, h⟩ | ⟨-, h⟩
    · cases h; simp
    · cases h

/-! ## Requests -/

theorem decodeGetStatus_format (p : Setup) : (decodeGetStatus p).format = .setup := by
  unfold decodeGetStatus
  split_ifs <;> rfl

theorem decodeGetDescriptor_format (c : Config) (p : Setup) :
    (decodeGetDescriptor c p).format = .setup := by
  unfold decodeGetDescriptor
  split_ifs <;> rfl

theorem decodeSetup_format (c : Config) (p : Setup) : (decodeSetup c p).format = .setup := by
  simp only [decodeSetup, apply_ite Instr.format, decodeGetStatus_format,
    decodeGetDescriptor_format]
  simp only [Instr.format, ite_self]

/-! ## Frames -/

/-- The opcodes CONSUMER answers with a reply (spec/44_environment.md R283). -/
def FrameOpcodes.answered (o : FrameOpcodes) : List Word :=
  [o.deviceInfo, o.setupWrite, o.finishWrite, o.hardwareReset]

theorem exists_cons_four {bytes : Bytes} (h : 4 ≤ bytes.length) :
    ∃ a b c d rest, bytes = a :: b :: c :: d :: rest := by
  match bytes, h with
  | a :: b :: c :: d :: rest, _ => exact ⟨a, b, c, d, rest, rfl⟩

/-- A byte string is a frame of some fields, or it has another length than 64 and is rejected for
that. -/
theorem decodeFrame_cases (c : Config) (bytes : Bytes) :
    (∃ op e1 e2 e3 p, p.length = 48 ∧ bytes = frameBytes op e1 e2 e3 p
        ∧ decodeFrame c bytes = decodeFrameFields c op e1 e2 e3 p)
      ∨ (bytes.length ≠ frameLen ∧ decodeFrame c bytes = .error (.frameLength bytes.length)) := by
  unfold decodeFrame
  split
  · next payload =>
    split
    · next hp => exact .inl ⟨_, _, _, _, payload, hp, by simp [frameBytes, bytes32_u32le], rfl⟩
    · next hp => exact .inr ⟨by simp [frameLen]; omega, rfl⟩
  · next hshort =>
    refine .inr ⟨fun hlen => ?_, rfl⟩
    rw [frameLen] at hlen
    obtain ⟨_, _, _, _, l, rfl⟩ := exists_cons_four (bytes := bytes) (by omega)
    obtain ⟨_, _, _, _, l, rfl⟩ := exists_cons_four (bytes := l) (by simp at hlen; omega)
    obtain ⟨_, _, _, _, l, rfl⟩ := exists_cons_four (bytes := l) (by simp at hlen; omega)
    obtain ⟨_, _, _, _, l, rfl⟩ := exists_cons_four (bytes := l) (by simp at hlen; omega)
    exact hshort _ _ _ _ _ _ _ _ _ _ _ _ _ _ _ _ _ rfl

/-- The fields that are no instruction have an opcode of none of the five commands. -/
theorem decodeFrameFields_error {c : Config} {op e1 e2 e3 : Word} {p : Bytes} {e : DecodeError}
    (h : decodeFrameFields c op e1 e2 e3 p = .error e) :
    e = .unknownFrameOpcode op ∧ op ∉ c.op.answered := by
  unfold decodeFrameFields at h
  split_ifs at h
  cases h
  exact ⟨rfl, by simp [FrameOpcodes.answered, *]⟩

end Sys2Proof
end

section
/-! SUPPORT. What a step adds to the history (spec/00_scope.md R13): nothing, or one event with the
cause the spec names. One lemma per agent's move says which; `PollOutcome` says it once for every
stretch of a POLL. -/

namespace Sys2Proof.Machine

variable {s t : State}

/-! ## What leaves the history as it is -/

@[simp] theorem setupRequestHandler_history (s : State) :
    (setupRequestHandler s).history = s.history := by
  obtain ⟨p, q, k, hl⟩ := latchSetup_eq s
  simp only [setupRequestHandler, hl]
  split <;> rfl

@[simp] theorem stagePayload_history (offset : Word) (payload : Bytes) (s : State) :
    (stagePayload offset payload s).history = s.history := by
  unfold stagePayload
  split <;> rfl

@[simp] theorem frameReturn_history (c : Caller) (s : State) :
    (frameReturn c s).history = s.history := by cases c <;> rfl

theorem sendFrameLoop_history {x : Tx} {c : Caller} (h : sendFrameLoop x c s = .next t) :
    t.history = s.history := by
  rcases sendFrameLoop_next h with ⟨-, rfl⟩ | ⟨-, -, -, chunk, -, rfl⟩
  · simp
  · rfl

theorem execSendFrame_history {bytes : Bytes} (h : execSendFrame bytes s = .next t) :
    t.history = s.history := by
  unfold execSendFrame at h
  split at h
  · exact sendFrameLoop_history h
  · exact sendFrameLoop_history h
  · cases h

theorem replyAck_history {e1 e2 e3 : Word} {p : Bytes} (h : replyAck e1 e2 e3 p s = .next t) :
    t.history = s.history := by
  obtain ⟨_, _, -, h⟩ := atDispatch_next h
  exact sendFrameLoop_history h

/-! ## A stretch of a POLL (spec/41_usb_poll_control.md R180, spec/43_hid_framer.md R240, R242) -/

/-- How a stretch of a POLL that would return `v` ends, by the event it adds: at a hold point with
none, in the POLL's return, or in the fail-stop of a pending bank that does not fit. -/
inductive PollOutcome (v : Bool) (s t : State) : Prop
  | holds (hh : t.history = s.history)
  | returns (hq : t.seq = .idle) (hh : t.history = s.history ++ [Event.pollReturn v])
  | overflows (b : Bank) (hf : s.ep1.bankFlag b = true)
      (hc : frameLen < s.rxCnt + s.ep1.bankCount b) (hq : t.seq = .halted .malformedFrame)
      (hh : t.history = s.history ++ [Event.halt .malformedFrame])

/-- Only the history, EP1 and the count of gathered bytes of the state before matter. -/
theorem PollOutcome.of_fields {v : Bool} {s' : State} (ho : PollOutcome v s' t)
    (hh : s'.history = s.history) (he : s'.ep1 = s.ep1) (hn : s'.rxCnt = s.rxCnt) :
    PollOutcome v s t := by
  cases ho with
  | holds h => exact .holds (h.trans hh)
  | returns hq h => exact .returns hq (hh ▸ h)
  | overflows b hf hc hq h => exact .overflows b (he ▸ hf) (he ▸ hn ▸ hc) hq (hh ▸ h)

theorem drainBanks_outcome {l : List Bank} (h : drainBanks l s = .next t) :
    PollOutcome true s t := by
  rcases drainBanks_cases l s with hd | ⟨b, rest, hf, hd⟩ <;> rw [hd] at h
  · cases h; exact .returns rfl rfl
  · rcases drainBank_next h with ⟨hc, rfl⟩ | ⟨-, rfl⟩
    · exact .overflows b hf hc rfl rfl
    · exact .holds (by simp)

/-- POLL step 3 makes the result true when it finds an EP1 packet pending. -/
theorem pollStep3_outcome {v : Bool} (h : pollStep3 v s = .next t) :
    PollOutcome (v || ep1Pending s) s t := by
  cases hp : ep1Pending s with
  | false =>
    rw [pollStep3_quiet hp] at h
    cases h
    exact .returns rfl (by simp)
  | true =>
    rw [pollStep3, if_pos hp] at h
    simpa using drainBanks_outcome h

theorem requestDone_outcome (h : requestDone s = .next t) : PollOutcome true s t :=
  pollStep3_outcome h

theorem sendChunk_outcome {x : Tx} (h : sendChunk x s = .next t) : PollOutcome true s t := by
  rcases sendChunk_next h with ⟨-, h⟩ | ⟨-, -, -, chunk, -, rfl⟩
  · exact pollStep3_outcome h
  · exact .holds rfl

theorem sendControl_outcome {src : Src} {n : Nat} (h : sendControl src n s = .next t) :
    PollOutcome true s t := sendChunk_outcome h

theorem execGetDescriptorString_outcome {rt index : Byte} {wIndex wLength : Half}
    (h : exec (.getDescriptorString rt index wIndex wLength) s = .next t) :
    PollOutcome true s t := by
  simp only [exec, execGetDescriptorString] at h
  split at h
  · exact requestDone_outcome h
  · cases h
  · exact sendControl_outcome h

/-- A request sends a reply, waits with a status reply queued, or is done at once. -/
theorem exec_request_outcome {i : Instr} (hi : i.format = .setup) (h : exec i s = .next t) :
    PollOutcome true s t := by
  cases i with
  | crcSeed | crcLoad | crcFeed | crcRaw | crcFinal | poll | sendFrame => cases hi
  | frameDeviceInfo | frameSetupWrite | frameFinishWrite | frameHardwareReset | frameAck => cases hi
  | getDescriptorString => exact execGetDescriptorString_outcome h
  | getDescriptorDevice | getDescriptorConfiguration | getDescriptorHidReport =>
    exact sendControl_outcome h
  | getStatusDevice | getStatusInterface | getStatusEndpoint =>
    exact sendControl_outcome (src := .bytes [0, 0]) (n := 2) h
  | getInterface => exact sendControl_outcome (src := .bytes [0]) (n := 1) h
  | getConfiguration => exact sendControl_outcome (src := .bytes [s.curCfg]) (n := 1) h
  | getDescriptorUnknownType | getStatusOther | clearFeature | setFeature | syncFrame
  | setDescriptor | unknownRequest => exact requestDone_outcome h
  | setInterface | setAddress => cases h; exact .holds rfl
  | setConfiguration => cases h; exact .holds (applyConfiguration_history ..)

/-- A POLL starts only when Idle, and its first stretch returns whether one of its tests is true. -/
theorem execPoll_outcome (h : execPoll s = .next t) :
    s.seq = .idle ∧ PollOutcome (pollHasWork s) s t := by
  unfold execPoll at h
  split at h
  · next hq =>
    refine ⟨hq, ?_⟩
    split at h
    · next hb =>
      -- the bus-reset service withdraws every other pending event
      have hw : pollHasWork s = true := by simp [pollHasWork, hb]
      cases h
      exact .returns rfl (by rw [hw]; rfl)
    · next hb =>
      unfold pollStep2 at h
      split at h
      · cases h; exact .holds (by simp)
      · next hr =>
        have hw : pollHasWork s = (false || ep1Pending s) := by simp [pollHasWork, hb, hr]
        rw [hw]
        exact pollStep3_outcome h
  · cases h

/-! ## The ENGINE's turn -/

/-- Going on from a hold point adds nothing, has a POLL's outcome, or dispatches a frame. -/
theorem resume_next {h : Hold} (hr : resume h s = .next t) :
    t.history = s.history ∨ (insidePoll h ∧ PollOutcome true s t)
      ∨ ∃ b rest, h = .rxClr b rest ∧ s.rxCnt = frameLen ∧ t = dispatchFrame rest s := by
  cases h with
  | dir => cases hr; exact .inl rfl
  | setupClr => exact .inr (.inl ⟨trivial, exec_request_outcome (decodeSetup_format ..) hr⟩)
  | ctlTx x =>
    simp only [resume, afterCtlTx] at hr
    split at hr
    · exact .inr (.inl ⟨trivial, requestDone_outcome hr⟩)
    · cases hr; exact .inl rfl
  | ctlAckClr x =>
    simp only [resume, afterCtlAckClr] at hr
    split at hr
    · exact .inr (.inl ⟨trivial, requestDone_outcome hr⟩)
    · exact .inr (.inl ⟨trivial, sendChunk_outcome hr⟩)
  | zlpTx a => cases hr; exact .inl rfl
  | zlpAckClr a =>
    have ho : PollOutcome true (finishRequest a s) t := requestDone_outcome hr
    exact .inr (.inl ⟨trivial, by cases a <;> exact ho.of_fields rfl rfl rfl⟩)
  | rxClr b rest =>
    simp only [resume, afterBankCleared] at hr
    split at hr
    · next hc => cases hr; exact .inr (.inr ⟨b, rest, rfl, hc, rfl⟩)
    · exact .inr (.inl ⟨trivial, drainBanks_outcome hr⟩)
  | dispatch frame rest => cases hr; exact .inl rfl
  | frmTx x c => cases hr; exact .inl rfl
  | frmAckClr x c => exact .inl (sendFrameLoop_history hr)

/-- A failed test adds nothing, or it is the one at the cap and ends in the handshake stall. -/
theorem failedTest_history (h : Hold) (s : State) :
    (failedTest h s).history = s.history
      ∨ (failedTest h s = halt .handshakeStall s ∧ stallable h = true
        ∧ ∃ k, s.cfg.spinCap = some k ∧ k ≤ s.spin + 1) := by
  unfold failedTest
  split
  · exact .inl rfl
  · next k hk =>
    split_ifs with hst hc
    · exact .inr ⟨rfl, hst, k, hk, hc⟩
    · exact .inl rfl
    · exact .inl rfl

/-! ## CONSUMER -/

/-- A decoded frame is answered with a reply, or it is an ACK. -/
theorem exec_decodedFrame_next {op e1 e2 e3 : Word} {p : Bytes} {i : Instr}
    (hd : decodeFrameFields s.cfg op e1 e2 e3 p = .ok i) (h : exec i s = .next t) :
    t.history = s.history ∨ (t = halt .unknownOpcode s ∧ op ∉ s.cfg.op.answered) := by
  unfold decodeFrameFields at hd
  split_ifs at hd with h1 h2 h3 h4 h5 <;> cases hd
  · exact .inl (replyAck_history h)
  · exact .inl ((replyAck_history h).trans (stagePayload_history ..))
  · exact .inl (replyAck_history (s := finishPage e1 p s) h)
  · exact .inl (replyAck_history h)
  · exact .inr ⟨consumerHalt_next h, by simp [FrameOpcodes.answered, h1, h2, h3, h4]⟩

/-- Serving the frame adds nothing, or it fail-stops on the opcode or on the length. -/
theorem serveFrame_next (h : serveFrame s = .next t) :
    ∃ frame rest, s.seq = .hold (.dispatch frame rest)
      ∧ (t.history = s.history
        ∨ (t = halt .unknownOpcode s ∧ ∃ op e1 e2 e3 p, p.length = 48
          ∧ frame = frameBytes op e1 e2 e3 p ∧ op ∉ s.cfg.op.answered)
        ∨ (t = halt .malformedFrame s ∧ frame.length ≠ frameLen)) := by
  obtain ⟨frame, rest, hq, h⟩ := atDispatch_next h
  refine ⟨frame, rest, hq, ?_⟩
  simp only [decode] at h
  rcases decodeFrame_cases s.cfg frame with ⟨op, e1, e2, e3, p, hp, hframe, hd⟩ | ⟨hlen, hd⟩
  · rw [hd] at h
    cases hf : decodeFrameFields s.cfg op e1 e2 e3 p with
    | ok i =>
      rw [hf] at h
      exact (exec_decodedFrame_next hf h).imp_right fun ⟨ht, hop⟩ =>
        .inl ⟨ht, op, e1, e2, e3, p, hp, hframe, hop⟩
    | error e =>
      obtain ⟨rfl, hop⟩ := decodeFrameFields_error hf
      rw [hf] at h
      exact .inr (.inl ⟨consumerHalt_next h, op, e1, e2, e3, p, hp, hframe, hop⟩)
  · rw [hd] at h
    exact .inr (.inr ⟨consumerHalt_next h, hlen⟩)

/-! ## One event with its cause

The move is made from `{ s with script := r }`, `s` with the move taken off its script; the causes
speak of `s` itself, whose script still names the move. -/

/-- From `s` to `t` the history grows by nothing, or by one event with the cause the spec names. -/
def AddsCausedEvent (s t : State) : Prop :=
  t.history = s.history ∨ ∃ e, t.history = s.history ++ [e] ∧ causeOf e s t

theorem AddsCausedEvent.causeOf_of_mem (h : AddsCausedEvent s t) {e : Event}
    (he : e ∈ t.history.drop s.history.length) : causeOf e s t := by
  rcases h with hh | ⟨e', hh, hc⟩
  · simp [hh] at he
  · obtain rfl : e = e' := by simpa [hh] using he
    exact hc

variable {r : List Move}

theorem PollOutcome.addsCausedEvent {v : Bool} (ho : PollOutcome v { s with script := r } t)
    (hc : (pollNext s ∧ v = pollHasWork s) ∨ (pollGoesOn s ∧ v = true)) : AddsCausedEvent s t := by
  cases ho with
  | holds hh => exact .inl hh
  | returns hq hh => exact .inr ⟨_, hh, hq, hc⟩
  | overflows b hf hlt hq hh =>
    exact .inr ⟨_, hh, hq, .inl ⟨hc.imp And.left And.left, b, hf, hlt⟩⟩

theorem resume_addsCausedEvent {h : Hold} (hm : nextMoveOf s = .engine) (hq : s.seq = .hold h)
    (hready : holdReady h s = true) (hr : resume h { s with script := r } = .next t) :
    AddsCausedEvent s t := by
  rcases resume_next hr with hh | ⟨hin, ho⟩ | ⟨b, rest, rfl, hc, rfl⟩
  · exact .inl hh
  · have hg : pollGoesOn s := ⟨h, hq, hin, .inl ⟨hm, hready⟩⟩
    exact ho.addsCausedEvent (.inr ⟨hg, rfl⟩)
  · exact .inr ⟨_, rfl, hc, rfl, rfl, hm, b, rest, hq, by simpa [holdReady] using hready⟩

theorem engineStep_addsCausedEvent (hm : nextMoveOf s = .engine)
    (h : engineStep { s with script := r } = .next t) : AddsCausedEvent s t := by
  cases hq : s.seq with
  | idle => simp only [engineStep, hq] at h; cases h; exact .inl rfl
  | halted reason => simp only [engineStep, hq] at h; cases h; exact .inl rfl
  | hold hp =>
    cases hready : holdReady hp s with
    | true =>
      rw [engineStep_ready (s := { s with script := r }) hq hready] at h
      exact resume_addsCausedEvent hm hq hready h
    | false =>
      rw [engineStep_fail (s := { s with script := r }) hq hready] at h
      cases h
      rcases failedTest_history hp { s with script := r } with hh | ⟨ht, hst, k, hk, hle⟩
      · exact .inl hh
      · rw [ht]
        exact .inr ⟨_, rfl, rfl, hm, hp, k, hq, hst, hready, hk, hle⟩

theorem invoke_addsCausedEvent {call : Bytes} (hm : nextMoveOf s = .invoke call)
    (h : move (.invoke call) { s with script := r } = .next t) : AddsCausedEvent s t := by
  obtain ⟨i, hd, h⟩ := invoke_next h
  rcases decode_opsel_cases hd with ⟨rfl, rfl⟩ | ⟨rfl, rfl⟩ | ⟨rfl, rfl⟩ | ⟨rfl, -⟩ | ⟨v, rfl⟩
    | ⟨b, rfl⟩ | ⟨b, rfl⟩
  · obtain ⟨hq, ho⟩ := execPoll_outcome h
    exact ho.addsCausedEvent (.inl ⟨⟨hm, hq⟩, rfl⟩)
  · cases h; exact .inr ⟨_, rfl, .inl ⟨hm, rfl⟩⟩
  · cases h; exact .inr ⟨_, rfl, .inr ⟨hm, rfl⟩⟩
  · cases h; exact .inl rfl
  · cases h; exact .inl rfl
  · cases h; exact .inl rfl
  · exact .inl (execSendFrame_history (s := { s with script := r }) h)

theorem serveFrame_addsCausedEvent (hm : nextMoveOf s = .serveFrame)
    (h : serveFrame { s with script := r } = .next t) : AddsCausedEvent s t := by
  obtain ⟨frame, rest, hq, hh | ⟨rfl, op, e1, e2, e3, p, hp, hframe, hop⟩ | ⟨rfl, hlen⟩⟩ :=
    serveFrame_next h
  · exact .inl hh
  · exact .inr ⟨_, rfl, rfl, frame, rest, hq, .inr ⟨hm, op, e1, e2, e3, p, hp, hframe, hop⟩⟩
  · exact .inr ⟨_, rfl, rfl, .inr ⟨frame, rest, hq, .inr ⟨hm, hlen⟩⟩⟩

theorem consumerReturn_addsCausedEvent (hm : nextMoveOf s = .consumerReturn)
    (h : consumerReturn { s with script := r } = .next t) : AddsCausedEvent s t := by
  obtain ⟨frame, rest, hq, h⟩ := atDispatch_next h
  have hg : pollGoesOn s := ⟨_, hq, trivial, .inr ⟨hm, frame, rest, rfl⟩⟩
  exact (drainBanks_outcome h).addsCausedEvent (.inr ⟨hg, rfl⟩)

theorem consumerHalt_addsCausedEvent {reason : Reason} (hm : nextMoveOf s = .consumerHalt reason)
    (h : consumerHalt reason { s with script := r } = .next t) : AddsCausedEvent s t := by
  obtain ⟨frame, rest, hq, h⟩ := atDispatch_next h
  cases reason with
  | malformedFrame => cases h; exact .inr ⟨_, rfl, rfl, .inr ⟨frame, rest, hq, .inl hm⟩⟩
  | unknownOpcode => cases h; exact .inr ⟨_, rfl, rfl, frame, rest, hq, .inl hm⟩
  | handshakeStall => cases h

theorem busInAck_addsCausedEvent {n : TxEp} (hm : nextMoveOf s = .busInAck n)
    (h : move (.busInAck n) { s with script := r } = .next t) : AddsCausedEvent s t := by
  obtain ⟨ha, rfl⟩ := busInAck_next h
  simp only [busInAckAllowed, Bool.and_eq_true] at ha
  obtain ⟨⟨⟨hen, htr⟩, -⟩, -⟩ := ha
  cases n <;> exact .inr ⟨_, rfl, hm, rfl, hen, htr⟩

theorem move_addsCausedEvent {m : Move} (hm : nextMoveOf s = m)
    (h : move m { s with script := r } = .next t) : AddsCausedEvent s t := by
  cases m with
  | engine => exact engineStep_addsCausedEvent hm h
  | invoke call => exact invoke_addsCausedEvent hm h
  | serveFrame => exact serveFrame_addsCausedEvent hm h
  | consumerReturn => exact consumerReturn_addsCausedEvent hm h
  | consumerHalt reason => exact consumerHalt_addsCausedEvent hm h
  | busInAck n => exact busInAck_addsCausedEvent hm h
  | busReset => cases h; exact .inl rfl
  | busSetup p => obtain ⟨-, rfl⟩ := busSetup_next h; exact .inl rfl
  | busOut b d => obtain ⟨-, rfl⟩ := busOut_next h; exact .inl rfl
  | reflect f =>
    rcases reflect_next h with ⟨-, rfl⟩ | ⟨-, rfl⟩ <;> exact .inl (showFlag_history ..)
  | restart => cases h; exact .inl rfl

/-- Settles O57: whatever the next move is, it adds at most one event, and that with its cause. -/
theorem eventsHaveTheirCauses : Obligations.EventsHaveTheirCauses :=
  fun _ _ h _ he => (move_addsCausedEvent rfl (step_next h)).causeOf_of_mem he

end Sys2Proof.Machine
end

section
/-! SUPPORT. The state after reset is a good state (spec/10_state.md R60). -/

namespace Sys2Proof.Machine

theorem linkOk_reset : LinkOk State.reset := by
  constructor <;> simp [State.reset, Endpoint.reset]

theorem setupOk_reset : SetupOk State.reset := by
  constructor <;> simp [State.reset, Endpoint.reset, servesSetup, pastDirection]

theorem bankOk_reset (b : Bank) : BankOk b State.reset := by
  constructor <;> cases b <;>
    simp [State.reset, Endpoint.reset, Endpoint.bankCount, Endpoint.bankReq, Endpoint.bankFlag]

theorem txQuiet_reset : Endpoint.reset.txQuiet := ⟨rfl, rfl, rfl, rfl⟩

/-- Settles O2: nothing is pending or queued, the link is detached and the position is Idle. -/
theorem resetMeetsInvariant : Obligations.ResetMeetsInvariant where
  cfg := by decide
  flash := by decide
  rxCnt_le := Nat.zero_le _
  rxCnt_full := nofun
  ep0Fifo := Nat.zero_le _
  ep2Fifo := Nat.zero_le _
  link := linkOk_reset
  setup := setupOk_reset
  bank0 := bankOk_reset .b0
  bank1 := bankOk_reset .b1
  ep0Tx := txQuiet_reset
  ep2Tx := txQuiet_reset
  locals := trivial

end Sys2Proof.Machine
end
section
/-! SUPPORT. What an invocation, a request and a frame can do, by the shared operations they end in
(spec/30_encoding.md R127, spec/42_usb_requests.md, spec/44_environment.md R283). -/

namespace Sys2Proof.Machine

variable {s t : State}

/-! ## Requests -/

/-- A request is done at once, sends data, or sends a status reply; a string that is empty is read
outside its space. Only SET_CONFIGURATION changes the state first (R218). -/
theorem exec_request_cases {i : Instr} (hi : i.format = .setup) (s : State) :
    exec i s = requestDone s ∨ (∃ src n, exec i s = sendControl src n s)
      ∨ exec i s = .fault .memReadRange ∨ (∃ after, exec i s = zlpStatus after s)
      ∨ ∃ rt v high wIndex wLength, i = .setConfiguration rt v high wIndex wLength := by
  cases i with
  | crcSeed | crcLoad | crcFeed | crcRaw | crcFinal | poll | sendFrame => cases hi
  | frameDeviceInfo | frameSetupWrite | frameFinishWrite | frameHardwareReset | frameAck => cases hi
  | getDescriptorUnknownType | getStatusOther | clearFeature | setFeature | syncFrame
  | setDescriptor | unknownRequest => exact .inl rfl
  | getDescriptorDevice | getDescriptorConfiguration | getDescriptorHidReport =>
    exact .inr (.inl ⟨_, _, rfl⟩)
  | getStatusDevice | getStatusInterface | getStatusEndpoint =>
    exact .inr (.inl ⟨.bytes [0, 0], 2, rfl⟩)
  | getInterface => exact .inr (.inl ⟨.bytes [0], 1, rfl⟩)
  | getConfiguration => exact .inr (.inl ⟨.bytes [s.curCfg], 1, rfl⟩)
  | getDescriptorString =>
    simp only [exec, execGetDescriptorString]
    split
    · exact .inl rfl
    · exact .inr (.inr (.inl rfl))
    · exact .inr (.inl ⟨_, _, rfl⟩)
  | setInterface | setAddress => exact .inr (.inr (.inr (.inl ⟨_, rfl⟩)))
  | setConfiguration => exact .inr (.inr (.inr (.inr ⟨_, _, _, _, _, rfl⟩)))

/-! ## Frames -/

theorem decode_frame_format {c : Config} {bytes : Bytes} {i : Instr}
    (h : decode c .frame bytes = .ok i) : i.format = .frame := by
  rcases decodeFrame_cases c bytes with ⟨op, e1, e2, e3, p, -, -, hd⟩ | ⟨-, hd⟩ <;>
    simp only [decode, hd] at h
  · unfold decodeFrameFields at h
    split_ifs at h <;> cases h <;> rfl
  · cases h

theorem replyAck_of_dispatch {frame : Bytes} {rest : List Bank} {e1 e2 e3 : Word} {p : Bytes}
    (hq : s.seq = .hold (.dispatch frame rest)) :
    replyAck e1 e2 e3 p s
      = startSendFrame (ackFrame s.cfg e1 e2 e3 p) (.consumer frame rest) s := by
  simp [replyAck, atDispatch, hq]

/-- `s` with its staging area, flash and count of free values replaced: all that a frame's own
effect writes (R283). -/
def withStorage (staging : Vector Byte 256) (flash : Memory) (k : Nat) (s : State) : State :=
  { s with staging := staging, flash := flash, freeCount := k }

theorem stagePayload_eq_withStorage (offset : Word) (p : Bytes) (s : State) :
    ∃ staging k, stagePayload offset p s = withStorage staging s.flash k s := by
  unfold stagePayload
  split <;> exact ⟨_, _, rfl⟩

/-- A frame at the dispatch is an ACK, which fail-stops, or it has its own effect and its reply is
sent. -/
theorem exec_frame_cases {i : Instr} (hi : i.format = .frame) {frame : Bytes} {rest : List Bank}
    (hq : s.seq = .hold (.dispatch frame rest)) :
    exec i s = consumerHalt .unknownOpcode s
      ∨ ∃ bytes staging flash k, exec i s
          = startSendFrame bytes (.consumer frame rest) (withStorage staging flash k s) := by
  cases i with
  | crcSeed | crcLoad | crcFeed | crcRaw | crcFinal | poll | sendFrame => cases hi
  | frameAck => exact .inl rfl
  | frameDeviceInfo | frameHardwareReset =>
    exact .inr ⟨_, s.staging, s.flash, s.freeCount, replyAck_of_dispatch hq⟩
  | frameSetupWrite e1 e2 e3 p =>
    obtain ⟨staging, k, hs⟩ := stagePayload_eq_withStorage e1 p s
    refine .inr ⟨ackFrame s.cfg e1 e2 e3 p, staging, s.flash, k, ?_⟩
    rw [exec, execFrameSetupWrite, hs]
    exact replyAck_of_dispatch hq
  | frameFinishWrite e1 e2 e3 p =>
    exact .inr ⟨_, _, _, s.freeCount, replyAck_of_dispatch (s := finishPage e1 p s) hq⟩
  | _ => cases hi

/-- Serving the frame at the dispatch fail-stops, or sends a reply after the frame's own effect. -/
theorem serveFrame_cases (h : serveFrame s = .next t) :
    ∃ frame rest, s.seq = .hold (.dispatch frame rest)
      ∧ ((∃ r, t = halt r s) ∨ ∃ bytes staging flash k,
        startSendFrame bytes (.consumer frame rest) (withStorage staging flash k s) = .next t) := by
  obtain ⟨frame, rest, hq, h⟩ := atDispatch_next h
  refine ⟨frame, rest, hq, ?_⟩
  split at h
  · next i hd =>
    rcases exec_frame_cases (decode_frame_format hd) hq with he | ⟨bytes, staging, flash, k, he⟩ <;>
      rw [he] at h
    · exact .inl ⟨_, consumerHalt_next h⟩
    · exact .inr ⟨bytes, staging, flash, k, h⟩
  · exact .inl ⟨_, consumerHalt_next h⟩
  · exact .inl ⟨_, consumerHalt_next h⟩

/-! ## SEND_FRAME -/

/-- SEND_FRAME runs for LOOP when Idle, and for CONSUMER at the dispatch (spec/43_hid_framer.md
R251). -/
theorem execSendFrame_next {bytes : Bytes} (h : execSendFrame bytes s = .next t) :
    (s.seq = .idle ∧ startSendFrame bytes .loop s = .next t)
      ∨ ∃ frame rest, s.seq = .hold (.dispatch frame rest)
        ∧ startSendFrame bytes (.consumer frame rest) s = .next t := by
  unfold execSendFrame at h
  split at h
  · next hq => exact .inl ⟨hq, h⟩
  · next frame rest hq => exact .inr ⟨frame, rest, hq, h⟩
  · cases h

/-- SendFrame for CONSUMER stays at the dispatch when it has nothing to send, or waits for the first
packet to be taken. -/
theorem startSendFrame_consumer_seq {bytes frame : Bytes} {rest : List Bank}
    (h : startSendFrame bytes (.consumer frame rest) s = .next t) :
    t.seq = .hold (.dispatch frame rest)
      ∨ ∃ x, t.seq = .hold (.frmTx x (.consumer frame rest)) := by
  rcases sendFrameLoop_next h with ⟨-, rfl⟩ | ⟨-, -, -, chunk, -, rfl⟩
  · exact .inl rfl
  · exact .inr ⟨_, rfl⟩

/-! ## Invocations -/

/-- An invocation that has a next state is a POLL, a SEND_FRAME, or an operation of the CRC unit,
which writes the accumulator and the history only. -/
theorem invoke_cases {call : Bytes} (h : move (.invoke call) s = .next t) :
    (call = [0x10] ∧ execPoll s = .next t) ∨ (∃ bytes, execSendFrame bytes s = .next t)
      ∨ ∃ acc history, t = { s with crcAcc := acc, history := history } := by
  obtain ⟨i, hd, h⟩ := invoke_next h
  rcases decode_opsel_cases hd with ⟨rfl, rfl⟩ | ⟨rfl, -⟩ | ⟨rfl, -⟩ | ⟨rfl, -⟩ | ⟨v, rfl⟩
    | ⟨b, rfl⟩ | ⟨b, rfl⟩
  · exact .inl ⟨rfl, h⟩
  · cases h; exact .inr (.inr ⟨_, _, rfl⟩)
  · cases h; exact .inr (.inr ⟨_, _, rfl⟩)
  · cases h; exact .inr (.inr ⟨_, s.history, rfl⟩)
  · cases h; exact .inr (.inr ⟨_, s.history, rfl⟩)
  · cases h; exact .inr (.inr ⟨_, s.history, rfl⟩)
  · exact .inr (.inl ⟨b, h⟩)

theorem execPoll_busy (hq : s.seq ≠ .idle) : execPoll s = .refused .engineBusy := by
  unfold execPoll
  split
  · next hi => exact absurd hi hq
  · rfl

theorem execSendFrame_busy {bytes : Bytes} (hi : s.seq ≠ .idle)
    (hd : ∀ frame rest, s.seq ≠ .hold (.dispatch frame rest)) :
    execSendFrame bytes s = .refused .engineBusy := by
  unfold execSendFrame
  split
  · next hq => exact absurd hq hi
  · next hq => exact absurd hq (hd _ _)
  · rfl

/-! ## BUS -/

/-- No move of BUS moves the ENGINE. -/
theorem busMove_seq {m : Move} (hm : isBusMove m = true) (h : move m s = .next t) :
    t.seq = s.seq := by
  cases m with
  | busReset => cases h; rfl
  | busSetup p => obtain ⟨-, rfl⟩ := busSetup_next h; rfl
  | busOut b d => obtain ⟨-, rfl⟩ := busOut_next h; rfl
  | busInAck n => obtain ⟨-, rfl⟩ := busInAck_next h; simp
  | reflect f => rcases reflect_next h with ⟨-, rfl⟩ | ⟨-, rfl⟩ <;> simp
  | engine | invoke | serveFrame | consumerReturn | consumerHalt | restart => cases hm

end Sys2Proof.Machine
end
section
/-! SUPPORT. The positions at which the ENGINE waits for somebody else: Halted, which only a restart
leaves (spec/10_state.md R52), and the hold points with the moves that lift them (R51). -/

namespace Sys2Proof.Machine

variable {s t : State}

/-! ## Halted -/

/-- Away from Idle and HP_DISPATCH neither POLL nor SEND_FRAME runs, so an invocation leaves the
position and every endpoint. -/
theorem invoke_of_busy {call : Bytes} (hi : s.seq ≠ .idle)
    (hd : ∀ frame rest, s.seq ≠ .hold (.dispatch frame rest))
    (h : move (.invoke call) s = .next t) :
    ∃ acc history, t = { s with crcAcc := acc, history := history } := by
  rcases invoke_cases h with ⟨-, h⟩ | ⟨bytes, h⟩ | h
  · rw [execPoll_busy hi] at h; cases h
  · rw [execSendFrame_busy hi hd] at h; cases h
  · exact h

theorem engineStep_of_halted {r : Reason} (hq : s.seq = .halted r) : engineStep s = .next s := by
  simp [engineStep, hq]

theorem move_of_halted {r : Reason} (hq : s.seq = .halted r) {m : Move} (hm : m ≠ .restart)
    (h : move m s = .next t) : t.seq = .halted r := by
  have hd : ∀ frame rest, s.seq ≠ .hold (.dispatch frame rest) := by simp [hq]
  cases m with
  | engine => rw [move, engineStep_of_halted hq] at h; cases h; exact hq
  | invoke call => obtain ⟨_, _, rfl⟩ := invoke_of_busy (by simp [hq]) hd h; exact hq
  | serveFrame | consumerReturn | consumerHalt =>
    obtain ⟨frame, rest, hq', -⟩ := atDispatch_next h
    exact absurd hq' (hd frame rest)
  | busReset | busSetup | busOut | busInAck | reflect => exact (busMove_seq rfl h).trans hq
  | restart => exact absurd rfl hm

/-- What WATCHDOG's restart gives is a power-on state (R60). -/
theorem powerOn_restart (s : State) : PowerOn (restart s) := by
  constructor <;> rfl

/-- Settles O40: every move but a restart is refused at Halted or leaves the position. -/
theorem haltedIsLeftOnlyByRestart : Obligations.HaltedIsLeftOnlyByRestart := by
  intro s r hq
  have hi : s.seq ≠ .idle := by simp [hq]
  have hd : ∀ frame rest, s.seq ≠ .hold (.dispatch frame rest) := by simp [hq]
  exact ⟨fun t hr h => move_of_halted (s := { s with script := s.script.tail }) hq hr (step_next h),
    engineStep_of_halted hq, execPoll_busy hi, fun _ => execSendFrame_busy hi hd,
    atDispatch_refused hd, atDispatch_refused hd, fun _ => atDispatch_refused hd,
    restart s, rfl, powerOn_restart s⟩

/-! ## The flags a hold point reads -/

/-- The handshaked flags that the condition of a hold point reads (R51). -/
def awaited : Hold → List Flag
  | .dir => [.ep0Dir]
  | .setupClr => [.ep0RxSetup]
  | .ctlTx _ => [.ep0RxSetup, .ep0TxAcked]
  | .ctlAckClr _ => [.ep0TxAcked]
  | .zlpTx _ => [.ep0TxAcked]
  | .zlpAckClr _ => [.ep0TxAcked]
  | .rxClr b _ => [.ep1RxBank b]
  | .dispatch _ _ => []
  | .frmTx _ _ => [.ep2TxAcked]
  | .frmAckClr _ _ => [.ep2TxAcked]

theorem holdReady_congr {h : Hold} (hf : ∀ f ∈ awaited h, readFlag f t = readFlag f s) :
    holdReady h t = holdReady h s := by
  cases h <;> simp_all [awaited, holdReady, readFlag]

theorem holdReady_of_endpoints {h : Hold} (h0 : t.ep0 = s.ep0) (h1 : t.ep1 = s.ep1)
    (h2 : t.ep2 = s.ep2) : holdReady h t = holdReady h s :=
  holdReady_congr fun f _ => by cases f <;> simp only [readFlag, h0, h1, h2]

theorem setBankFlag_bankFlag_other (e : Endpoint) {b c : Bank} (h : c ≠ b) (v : Bool) :
    (e.setBankFlag b v).bankFlag c = e.bankFlag c := by
  cases b <;> cases c <;> simp_all [Endpoint.setBankFlag, Endpoint.bankFlag]

/-- The flags are fields of their own: showing one leaves what a read of another returns. -/
theorem readFlag_showFlag_other {f g : Flag} (hne : g ≠ f) (v : Bool) :
    readFlag g (showFlag f v s) = readFlag g s := by
  cases f <;> cases g <;> simp_all [readFlag, showFlag, setBankFlag_bankFlag_other]

/-! ## What lifts a hold (R51, last column) -/

theorem awaited_of_reflect {h : Hold} {f : Flag} {v : Bool} (hs : holdReady h s = false)
    (hr : holdReady h (showFlag f v s) = true) : f ∈ awaited h := by
  by_contra hn
  have heq : holdReady h (showFlag f v s) = holdReady h s :=
    holdReady_congr fun g hg => readFlag_showFlag_other (by rintro rfl; exact hn hg) v
  rw [heq, hs] at hr
  cases hr

/-- While a packet is queued, no write of `tx_acked` is outstanding. -/
theorem Inv.txAckedReq_of_frmTx {x : Tx} {c : Caller} (hi : Inv s)
    (hq : s.seq = .hold (.frmTx x c)) : s.ep2.txAckedReq = .none := by
  have hx := hi.ep2Tx
  simp only [ep2TxOk, hq] at hx
  exact hx.1

theorem Inv.txAckedReq_of_zlpTx {a : AfterZlp} (hi : Inv s) (hq : s.seq = .hold (.zlpTx a)) :
    s.ep0.txAckedReq = .none := by
  have hx := hi.ep0Tx
  simp only [ep0TxOk, hq] at hx
  obtain ⟨-, hreq, -⟩ := hx
  exact hreq

theorem Inv.txAckedReq_of_ctlTx {x : Tx} (hi : Inv s) (hq : s.seq = .hold (.ctlTx x)) :
    s.ep0.txAckedReq = .none := by
  have hx := hi.ep0Tx
  simp only [ep0TxOk, hq] at hx
  split at hx
  · obtain ⟨-, -, -, hreq⟩ := hx; exact hreq
  · exact hx.1

/-- Only the reflected writes that R51 names lift a hold: while a packet is queued no write of its
acknowledgment is outstanding, and no set of the SETUP flag is ever requested. -/
theorem reflect_lifts {h : Hold} {f : Flag} (hi : Inv s) (hq : s.seq = .hold h)
    (hs : holdReady h s = false) (hm : move (.reflect f) s = .next t) (hr : holdReady h t = true) :
    lifts h (.reflect f) := by
  obtain ⟨v, hv, rfl⟩ : ∃ v, flagReq f s = (if v then .set else .clr) ∧ t = showFlag f v s := by
    rcases reflect_next hm with ⟨hf, rfl⟩ | ⟨hf, rfl⟩
    · exact ⟨true, hf, rfl⟩
    · exact ⟨false, hf, rfl⟩
  have hreq : flagReq f s ≠ .none := by rw [hv]; split <;> nofun
  have hf := awaited_of_reflect hs hr
  cases h with
  | dir | setupClr | rxClr | frmAckClr => rw [List.mem_singleton.1 hf]; rfl
  | ctlAckClr | zlpAckClr => rw [List.mem_singleton.1 hf]; exact .inl rfl
  | dispatch => cases hf
  | zlpTx => rw [List.mem_singleton.1 hf] at hreq; exact absurd (hi.txAckedReq_of_zlpTx hq) hreq
  | frmTx => rw [List.mem_singleton.1 hf] at hreq; exact absurd (hi.txAckedReq_of_frmTx hq) hreq
  | ctlTx x =>
    simp only [awaited, List.mem_cons, List.not_mem_nil, or_false] at hf
    rcases hf with rfl | rfl
    · cases v with
      | true => exact absurd hv hi.setup.req_ne_set
      | false => simp_all [holdReady, showFlag]
    · exact absurd (hi.txAckedReq_of_ctlTx hq) hreq

/-- A SETUP flags itself and withdraws the transmit side (R271, R273). -/
theorem busSetup_lifts {h : Hold} {p : Bytes} (hs : holdReady h s = false)
    (hr : holdReady h { s with ep0 := s.ep0.setupArrives p } = true) : lifts h (.busSetup p) := by
  cases h with
  | ctlTx | ctlAckClr | zlpAckClr => exact .inr ⟨p, rfl⟩
  | dir | setupClr | zlpTx => cases hr
  | rxClr | frmTx | frmAckClr | dispatch => cases hs.symm.trans hr

theorem fillBank_bankFlag_of_flag {e : Endpoint} {c : Bank} (h : e.bankFlag c = true) (b : Bank)
    (d : Bytes) : (e.fillBank b d).bankFlag c = true := by
  cases b <;> cases c <;> simp_all [Endpoint.fillBank, Endpoint.bankFlag]

/-- A packet put into a bank lifts no hold. -/
theorem busOut_not_ready {h : Hold} {b n : Bank} {d : Bytes} (hs : holdReady h s = false) :
    holdReady h { s with ep1 := s.ep1.fillBank b d, fillNext := n } = false := by
  cases h with
  | rxClr c rest =>
    simp only [holdReady, Bool.not_eq_false'] at hs ⊢
    exact fillBank_bankFlag_of_flag hs b d
  | dir | setupClr | ctlTx | ctlAckClr | zlpTx | zlpAckClr | dispatch | frmTx | frmAckClr =>
    exact hs

/-- A packet taken sets `tx_acked` of its endpoint (R274). -/
theorem busInAck_lifts {h : Hold} {n : TxEp} {e : Event} (hs : holdReady h s = false)
    (hr : holdReady h (setTxEndpoint n (txEndpoint n s).taken (emit e s)) = true) :
    lifts h (.busInAck n) := by
  cases n with
  | ep0 =>
    cases h with
    | ctlTx => exact .inl rfl
    | zlpTx => rfl
    | ctlAckClr | zlpAckClr => cases hr
    | dir | setupClr | rxClr | dispatch | frmTx | frmAckClr => cases hs.symm.trans hr
  | ep2 =>
    cases h with
    | frmTx => rfl
    | frmAckClr => cases hr
    | dir | setupClr | ctlTx | ctlAckClr | zlpTx | zlpAckClr | rxClr | dispatch =>
      cases hs.symm.trans hr

theorem engineStep_holdReady {h : Hold} (hq : s.seq = .hold h) (hs : holdReady h s = false)
    (hm : engineStep s = .next t) : holdReady h t = holdReady h s := by
  rw [engineStep_fail hq hs] at hm
  cases hm
  rcases failedTest_cases h s with ht | ht | ht <;> rw [ht] <;>
    exact holdReady_of_endpoints rfl rfl rfl

/-- A move that makes the condition of the hold point true, the ENGINE still there, is one that R51
names. -/
theorem move_lifts {h : Hold} {m : Move} (hi : Inv s) (hq : s.seq = .hold h)
    (hs : holdReady h s = false) (hm : move m s = .next t) (ht : t.seq = .hold h)
    (hr : holdReady h t = true) : lifts h m := by
  have hchanged : holdReady h t ≠ holdReady h s := by simp [hs, hr]
  have hd : ∀ frame rest, s.seq ≠ .hold (.dispatch frame rest) := by
    rintro frame rest hd
    cases hq.symm.trans hd
    cases hr
  cases m with
  | engine => exact absurd (engineStep_holdReady hq hs hm) hchanged
  | invoke call =>
    obtain ⟨_, _, rfl⟩ := invoke_of_busy (by simp [hq]) hd hm
    exact absurd (holdReady_of_endpoints rfl rfl rfl) hchanged
  | serveFrame | consumerReturn | consumerHalt =>
    obtain ⟨frame, rest, hq', -⟩ := atDispatch_next hm
    exact absurd hq' (hd frame rest)
  | busReset => cases hm; exact absurd (holdReady_of_endpoints rfl rfl rfl) hchanged
  | busSetup p => obtain ⟨-, rfl⟩ := busSetup_next hm; exact busSetup_lifts hs hr
  | busOut b d =>
    obtain ⟨-, rfl⟩ := busOut_next hm
    exact absurd ((busOut_not_ready hs).trans hs.symm) hchanged
  | busInAck n => obtain ⟨-, rfl⟩ := busInAck_next hm; exact busInAck_lifts hs hr
  | reflect f => exact reflect_lifts hi hq hs hm hr
  | restart => cases hm; cases ht

/-! ## HP_DISPATCH -/

section Dispatch

variable {frame : Bytes} {rest : List Bank} (hq : s.seq = .hold (.dispatch frame rest))
include hq

theorem engineStep_of_dispatch : engineStep s = .next s := by
  rw [engineStep_fail hq rfl]
  unfold failedTest
  split <;> rfl

theorem consumerReturn_of_dispatch : consumerReturn s = drainBanks rest s := by
  simp [consumerReturn, atDispatch, hq]

theorem consumerHalt_of_dispatch {r : Reason} (hr : r ≠ .handshakeStall) :
    consumerHalt r s = .next (halt r s) := by
  simp only [consumerHalt, atDispatch, hq]
  cases r with
  | malformedFrame | unknownOpcode => rfl
  | handshakeStall => exact absurd rfl hr

theorem invoke_of_dispatch_seq {call : Bytes} (h : move (.invoke call) s = .next t) :
    t.seq = s.seq ∨ ∃ x, t.seq = .hold (.frmTx x (.consumer frame rest)) := by
  rcases invoke_cases h with ⟨-, h⟩ | ⟨bytes, h⟩ | ⟨_, _, rfl⟩
  · rw [execPoll_busy (by simp [hq])] at h; cases h
  · rcases execSendFrame_next h with ⟨hi, -⟩ | ⟨frame', rest', hq', h⟩
    · cases hq.symm.trans hi
    · cases hq.symm.trans hq'
      rw [hq]
      exact startSendFrame_consumer_seq h
  · exact .inl rfl

theorem serveFrame_of_dispatch_seq (h : serveFrame s = .next t) :
    t.seq = s.seq ∨ (∃ r, t.seq = .halted r)
      ∨ ∃ x, t.seq = .hold (.frmTx x (.consumer frame rest)) := by
  obtain ⟨frame', rest', hq', ⟨r, rfl⟩ | ⟨_, _, _, _, h⟩⟩ := serveFrame_cases h
  · exact .inr (.inl ⟨r, rfl⟩)
  · cases hq.symm.trans hq'
    rw [hq]
    exact (startSendFrame_consumer_seq h).imp_right .inr

/-- The moves that leave HP_DISPATCH. -/
theorem move_of_dispatch {m : Move} (h : move m s = .next t) :
    t.seq = s.seq ∨ m = .consumerReturn ∨ m = .restart
      ∨ (∃ r, t.seq = .halted r ∧ (m = .consumerHalt r ∨ m = .serveFrame))
      ∨ ∃ x, t.seq = .hold (.frmTx x (.consumer frame rest)) := by
  cases m with
  | engine => rw [move, engineStep_of_dispatch hq] at h; cases h; exact .inl rfl
  | invoke call =>
    exact (invoke_of_dispatch_seq hq h).imp_right fun hx => .inr (.inr (.inr hx))
  | serveFrame =>
    rcases serveFrame_of_dispatch_seq hq h with he | ⟨r, hr⟩ | hx
    · exact .inl he
    · exact .inr (.inr (.inr (.inl ⟨r, hr, .inr rfl⟩)))
    · exact .inr (.inr (.inr (.inr hx)))
  | consumerReturn => exact .inr (.inl rfl)
  | consumerHalt r =>
    rw [consumerHalt_next h]
    exact .inr (.inr (.inr (.inl ⟨r, rfl, .inl rfl⟩)))
  | busReset | busSetup | busOut | busInAck | reflect => exact .inl (busMove_seq rfl h)
  | restart => exact .inr (.inr (.inl rfl))

end Dispatch

/-- Settles O46: the conditions are R51's by definition; each move that makes one hold is a move of
R51's last column; the moves at HP_DISPATCH. -/
theorem holdsAreLiftedOnlyByTheirMoves : Obligations.HoldsAreLiftedOnlyByTheirMoves := by
  refine ⟨fun _ _ _ _ _ _ => ⟨rfl, rfl, rfl, rfl, rfl, rfl, rfl, rfl, rfl⟩,
    fun _ _ _ _ => move_lifts,
    fun s frame rest hq => ⟨engineStep_of_dispatch hq, ?_, fun r hr => ?_⟩,
    fun _ _ _ _ _ hq => move_of_dispatch hq⟩
  · obtain ⟨t, ht⟩ := drainBanks_completes rest s
    exact ⟨t, (consumerReturn_of_dispatch hq).trans ht, ht⟩
  · exact ⟨_, consumerHalt_of_dispatch hq hr, rfl⟩

end Sys2Proof.Machine
end
section
/-! SUPPORT. How a step changes the link-level registers and the parameters (spec/10_state.md R26 to
R28, R54; spec/60_exceptions.md R321): not at all, or by one of four events. -/

namespace Sys2Proof.Machine

variable {s t : State}

/-! ## The registers a step leaves together -/

/-- The link-level registers with the build-time parameters: what only a bus-reset service,
SET_ADDRESS, SET_CONFIGURATION and a restart write, the parameters not even they. -/
structure LinkRegs where
  cfg : Config
  link : Link
  curCfg : Byte
  devAddr : BitVec 7
  ep0Enabled : Bool
  ep1Enabled : Bool
  ep2Enabled : Bool

/-- The link-level registers of a state. -/
def State.linkRegs (s : State) : LinkRegs :=
  ⟨s.cfg, s.link, s.curCfg, s.devAddr, s.ep0.enabled, s.ep1.enabled, s.ep2.enabled⟩

@[simp] theorem requestFlag_linkRegs (f : Flag) (r : Req) (s : State) :
    (requestFlag f r s).linkRegs = s.linkRegs := by
  cases f with
  | ep1RxBank b => cases b <;> rfl
  | ep0Dir | ep0RxSetup | ep0TxAcked | ep2TxAcked => rfl

@[simp] theorem showFlag_linkRegs (f : Flag) (v : Bool) (s : State) :
    (showFlag f v s).linkRegs = s.linkRegs := by
  cases f with
  | ep1RxBank b => cases b <;> rfl
  | ep0Dir | ep0RxSetup | ep0TxAcked | ep2TxAcked => rfl

@[simp] theorem appendBank_linkRegs (b : Bank) (s : State) :
    (appendBank b s).linkRegs = s.linkRegs := by cases b <;> rfl

@[simp] theorem goto_linkRegs (h : Hold) (s : State) : (goto h s).linkRegs = s.linkRegs := rfl

@[simp] theorem frameReturn_linkRegs (c : Caller) (s : State) :
    (frameReturn c s).linkRegs = s.linkRegs := by cases c <;> rfl

@[simp] theorem setupRequestHandler_linkRegs (s : State) :
    (setupRequestHandler s).linkRegs = s.linkRegs := by
  obtain ⟨p, q, k, hl⟩ := latchSetup_eq s
  simp only [setupRequestHandler, hl]
  split <;> rfl

@[simp] theorem failedTest_linkRegs (h : Hold) (s : State) :
    (failedTest h s).linkRegs = s.linkRegs := by
  rcases failedTest_cases h s with ht | ht | ht <;> rw [ht] <;> rfl

/-! ## The stretches that leave them -/

theorem drainBanks_linkRegs {l : List Bank} (h : drainBanks l s = .next t) :
    t.linkRegs = s.linkRegs := by
  rcases drainBanks_cases l s with hd | ⟨b, rest, -, hd⟩ <;> rw [hd] at h
  · cases h; rfl
  · rcases drainBank_next h with ⟨-, rfl⟩ | ⟨-, rfl⟩
    · rfl
    · simp

theorem pollStep3_linkRegs {v : Bool} (h : pollStep3 v s = .next t) : t.linkRegs = s.linkRegs := by
  unfold pollStep3 at h
  split at h
  · exact drainBanks_linkRegs h
  · cases h; rfl

theorem sendChunk_linkRegs {x : Tx} (h : sendChunk x s = .next t) : t.linkRegs = s.linkRegs := by
  rcases sendChunk_next h with ⟨-, h⟩ | ⟨-, -, -, chunk, -, rfl⟩
  · exact pollStep3_linkRegs h
  · rfl

theorem sendFrameLoop_linkRegs {x : Tx} {c : Caller} (h : sendFrameLoop x c s = .next t) :
    t.linkRegs = s.linkRegs := by
  rcases sendFrameLoop_next h with ⟨-, rfl⟩ | ⟨-, -, -, chunk, -, rfl⟩
  · simp
  · rfl

theorem serveFrame_linkRegs (h : serveFrame s = .next t) : t.linkRegs = s.linkRegs := by
  obtain ⟨frame, rest, -, ⟨r, rfl⟩ | ⟨bytes, staging, flash, k, h⟩⟩ := serveFrame_cases h
  · rfl
  · exact sendFrameLoop_linkRegs (s := withStorage staging flash k s) h

theorem pollStep2_linkRegs {v : Bool} (h : pollStep2 v s = .next t) : t.linkRegs = s.linkRegs := by
  unfold pollStep2 at h
  split at h
  · cases h; simp
  · exact pollStep3_linkRegs h

/-! ## How a move changes them -/

/-- The move `m` leaves the link-level registers, or is one of the four events that write them, each
with what it writes (R321). -/
inductive LinkStep (m : Move) (s t : State) : Prop
  | keeps (h : t.linkRegs = s.linkRegs)
  | resetService (hm : m = .invoke [0x10]) (hq : s.seq = .idle) (hb : s.busResetPending = true)
      (h : t.linkRegs = (busResetService s).linkRegs)
  | setAddress (a : BitVec 7) (hm : m = .engine) (hq : s.seq = .hold (.zlpAckClr (.setAddress a)))
      (ha : s.ep0.txAcked = false) (h : t.linkRegs = (programAddress a s).linkRegs)
  | setConfiguration (rt v high : Byte) (wIndex wLength : Half) (hm : m = .engine)
      (hq : s.seq = .hold .setupClr) (hr : s.ep0.rxSetup = false)
      (hi : latchedRequest s = .setConfiguration rt v high wIndex wLength)
      (h : t.linkRegs = (applyConfiguration v s).linkRegs)
  | restart (hm : m = .restart) (ht : t = restart s)

theorem execPoll_linkStep (h : execPoll s = .next t) : LinkStep (.invoke [0x10]) s t := by
  unfold execPoll at h
  split at h
  · next hq =>
    split at h
    · next hb => exact .resetService rfl hq hb (pollStep2_linkRegs h)
    · exact .keeps (pollStep2_linkRegs h)
  · cases h

theorem invoke_linkStep {call : Bytes} (h : move (.invoke call) s = .next t) :
    LinkStep (.invoke call) s t := by
  rcases invoke_cases h with ⟨rfl, h⟩ | ⟨bytes, h⟩ | ⟨_, _, rfl⟩
  · exact execPoll_linkStep h
  · rcases execSendFrame_next h with ⟨-, h⟩ | ⟨_, _, -, h⟩ <;>
      exact .keeps (sendFrameLoop_linkRegs h)
  · exact .keeps rfl

/-- Of the requests only SET_CONFIGURATION writes a link-level register before its status reply. -/
theorem exec_request_linkRegs {i : Instr} (hi : i.format = .setup) (h : exec i s = .next t) :
    t.linkRegs = s.linkRegs ∨ ∃ rt v high wIndex wLength,
      i = .setConfiguration rt v high wIndex wLength
        ∧ t.linkRegs = (applyConfiguration v s).linkRegs := by
  rcases exec_request_cases hi s with he | ⟨src, n, he⟩ | he | ⟨a, he⟩
    | ⟨rt, v, high, wIndex, wLength, rfl⟩
  · exact .inl (pollStep3_linkRegs (he.symm.trans h))
  · exact .inl (sendChunk_linkRegs (he.symm.trans h))
  · cases he.symm.trans h
  · cases he.symm.trans h; exact .inl rfl
  · cases h; exact .inr ⟨rt, v, high, wIndex, wLength, rfl, rfl⟩

theorem resume_linkStep {h : Hold} (hq : s.seq = .hold h) (hready : holdReady h s = true)
    (hr : resume h s = .next t) : LinkStep .engine s t := by
  cases h with
  | dir | zlpTx | frmTx => cases hr; exact .keeps (by simp [consumeSetup, afterZlpTx, afterFrmTx])
  | setupClr =>
    rcases exec_request_linkRegs (decodeSetup_format ..) hr with h | ⟨rt, v, high, wi, wl, hi, h⟩
    · exact .keeps h
    · exact .setConfiguration rt v high wi wl rfl hq (by simpa [holdReady] using hready) hi h
  | ctlTx x =>
    simp only [resume, afterCtlTx] at hr
    split at hr
    · exact .keeps (pollStep3_linkRegs hr)
    · cases hr; exact .keeps (by simp)
  | ctlAckClr x =>
    simp only [resume, afterCtlAckClr] at hr
    split at hr
    · exact .keeps (pollStep3_linkRegs hr)
    · exact .keeps (sendChunk_linkRegs hr)
  | zlpAckClr a =>
    have h : t.linkRegs = (finishRequest a s).linkRegs := pollStep3_linkRegs hr
    cases a with
    | nothing => exact .keeps h
    | setAddress a => exact .setAddress a rfl hq (by simpa [holdReady] using hready) h
  | rxClr b rest =>
    simp only [resume, afterBankCleared] at hr
    split at hr
    · cases hr; exact .keeps rfl
    · exact .keeps (drainBanks_linkRegs hr)
  | dispatch => cases hr; exact .keeps rfl
  | frmAckClr x c => exact .keeps (sendFrameLoop_linkRegs hr)

theorem engineStep_linkStep (h : engineStep s = .next t) : LinkStep .engine s t := by
  unfold engineStep at h
  split at h
  · cases h; exact .keeps rfl
  · cases h; exact .keeps rfl
  · next hp hq =>
    split at h
    · next hready => exact resume_linkStep hq hready h
    · cases h; exact .keeps (by simp)

theorem busMove_linkRegs {m : Move} (hm : isBusMove m = true) (h : move m s = .next t) :
    t.linkRegs = s.linkRegs := by
  cases m with
  | busReset => cases h; rfl
  | busSetup p => obtain ⟨-, rfl⟩ := busSetup_next h; rfl
  | busOut b d => obtain ⟨-, rfl⟩ := busOut_next h; cases b <;> rfl
  | busInAck n => obtain ⟨-, rfl⟩ := busInAck_next h; cases n <;> rfl
  | reflect f => rcases reflect_next h with ⟨-, rfl⟩ | ⟨-, rfl⟩ <;> simp
  | engine | invoke | serveFrame | consumerReturn | consumerHalt | restart => cases hm

theorem move_linkStep {m : Move} (h : move m s = .next t) : LinkStep m s t := by
  cases m with
  | engine => exact engineStep_linkStep h
  | invoke call => exact invoke_linkStep h
  | serveFrame => exact .keeps (serveFrame_linkRegs h)
  | consumerReturn =>
    obtain ⟨_, _, -, h⟩ := atDispatch_next h
    exact .keeps (drainBanks_linkRegs h)
  | consumerHalt r => rw [consumerHalt_next h]; exact .keeps rfl
  | busReset | busSetup | busOut | busInAck | reflect => exact .keeps (busMove_linkRegs rfl h)
  | restart => cases h; exact .restart rfl rfl

theorem step_linkStep (h : step s = .next t) :
    LinkStep (nextMoveOf s) { s with script := s.script.tail } t := move_linkStep (step_next h)

/-! ## The parameters and the history -/

/-- None of the events that write the link-level registers writes a parameter. -/
theorem LinkStep.cfg_eq {m : Move} (h : LinkStep m s t) : t.cfg = s.cfg := by
  cases h with
  | keeps h | resetService _ _ _ h | setAddress _ _ _ _ h => exact congrArg LinkRegs.cfg h
  | setConfiguration _ v _ _ _ _ _ _ _ h =>
    exact (congrArg LinkRegs.cfg h).trans (applyConfiguration_cfg s v)
  | restart _ ht => rw [ht]; rfl

theorem AddsCausedEvent.history_prefix (h : AddsCausedEvent s t) : s.history <+: t.history := by
  rcases h with hh | ⟨e, hh, -⟩ <;> rw [hh]
  exact List.prefix_append ..

/-- Settles O56: a step adds at most one event, and none of its moves writes a parameter. -/
theorem historyGrowsAndRomIsNeverWritten : Obligations.HistoryGrowsAndRomIsNeverWritten :=
  fun _ _ h => ⟨(move_addsCausedEvent rfl (step_next h)).history_prefix, (step_linkStep h).cfg_eq⟩

/-! ## The configuration and the enables -/

/-- EP1 and EP2 are enabled together, exactly when a configuration is selected (R27). -/
def LinkRegs.EnablesFollow (r : LinkRegs) : Prop :=
  r.ep1Enabled = r.ep2Enabled ∧ (r.curCfg ≠ 0 ↔ r.ep1Enabled = true ∧ r.ep2Enabled = true)

theorem LinkRegs.enablesFollow_of_unconfigured {r : LinkRegs} (hc : r.curCfg = 0)
    (h1 : r.ep1Enabled = false) (h2 : r.ep2Enabled = false) : r.EnablesFollow := by
  simp [EnablesFollow, hc, h1, h2]

theorem applyConfiguration_enablesFollow (v : Byte) (s : State) :
    (applyConfiguration v s).linkRegs.EnablesFollow := by
  by_cases hv : v = 0
  · subst hv
    exact LinkRegs.enablesFollow_of_unconfigured rfl rfl rfl
  · rw [applyConfiguration_nonzero s hv]
    exact ⟨rfl, fun _ => ⟨rfl, rfl⟩, fun _ => hv⟩

theorem LinkStep.keeps_enablesFollow {m : Move} (h : LinkStep m s t)
    (hs : s.linkRegs.EnablesFollow) : t.linkRegs.EnablesFollow := by
  cases h with
  | keeps h | setAddress _ _ _ _ h => rw [h]; exact hs
  | resetService _ _ _ h => rw [h]; exact LinkRegs.enablesFollow_of_unconfigured rfl rfl rfl
  | setConfiguration _ v _ _ _ _ _ _ _ h => rw [h]; exact applyConfiguration_enablesFollow v s
  | restart _ ht => rw [ht]; exact LinkRegs.enablesFollow_of_unconfigured rfl rfl rfl

/-- Settles O55: a state without a configuration enables neither endpoint, and SET_CONFIGURATION is
the one event that selects one. -/
theorem enablesFollowTheConfiguration : Obligations.EnablesFollowTheConfiguration := by
  obtain ⟨hen, hcfg⟩ : State.reset.linkRegs.EnablesFollow :=
    LinkRegs.enablesFollow_of_unconfigured rfl rfl rfl
  exact ⟨hcfg, hen, fun s t hen hcfg h => (step_linkStep h).keeps_enablesFollow ⟨hen, hcfg⟩⟩

end Sys2Proof.Machine
end

section
/-! SUPPORT. The ENGINE's turns at a hold point whose condition is false (spec/20_memory.md R96,
spec/60_exceptions.md R303): what one turn does in each case of the cap, and what a run of them adds up
to. -/

namespace Sys2Proof.Machine

variable {s : State} {h : Hold} {k : Nat}

/-- The count of failed tests is no part of a hold's condition. -/
theorem holdReady_setSpin (h : Hold) (n : Nat) (s : State) :
    holdReady h { s with spin := n } = holdReady h s := holdReady_of_endpoints rfl rfl rfl

/-! ## One turn -/

section Turn

variable (hq : s.seq = .hold h) (hr : holdReady h s = false)
include hq hr

theorem move_engine_uncapped (hcap : s.cfg.spinCap = none) : move .engine s = .next s := by
  rw [move, engineStep_fail hq hr]
  simp [failedTest, hcap]

theorem move_engine_below_cap (hcap : s.cfg.spinCap = some k) (hst : stallable h = true)
    (hk : s.spin + 1 < k) : move .engine s = .next { s with spin := s.spin + 1 } := by
  rw [move, engineStep_fail hq hr]
  simp [failedTest, hcap, hst, Nat.not_le.mpr hk]

theorem move_engine_at_cap (hcap : s.cfg.spinCap = some k) (hst : stallable h = true)
    (hk : k ≤ s.spin + 1) : move .engine s = .next (halt .handshakeStall s) := by
  rw [move, engineStep_fail hq hr]
  simp [failedTest, hcap, hst, hk]

end Turn

/-! ## A run of turns -/

/-- While the count stays below the cap, `n` turns only raise it by `n`. -/
theorem runMoves_engine_below_cap {n : Nat} (hq : s.seq = .hold h) (hr : holdReady h s = false)
    (hcap : s.cfg.spinCap = some k) (hst : stallable h = true) (hn : s.spin + n < k) :
    runMoves (List.replicate n .engine) s = .next { s with spin := s.spin + n } := by
  induction n generalizing s with
  | zero => rfl
  | succ n ih =>
    have hturn := move_engine_below_cap hq hr hcap hst (by omega)
    have hrest := ih (s := { s with spin := s.spin + 1 }) hq ((holdReady_setSpin ..).trans hr) hcap
      (by simp only; omega)
    simp only [List.replicate_succ, runMoves, hturn, andThen, hrest, Nat.add_assoc, Nat.add_comm 1]

/-- Settles O39: the turns before the cap only count, by induction, and the one at the cap is taken
from the state they leave. -/
theorem spinCapBoundsEveryHold : Obligations.SpinCapBoundsEveryHold := by
  refine fun s h hq hr => ⟨move_engine_uncapped hq hr, fun k hcap hst hspin => ?_⟩
  have hcount : runMoves (List.replicate k .engine) s = .next { s with spin := k } := by
    simpa [hspin] using runMoves_engine_below_cap hq hr hcap hst (n := k) (by omega)
  have hlast := move_engine_at_cap (s := { s with spin := k }) hq ((holdReady_setSpin ..).trans hr)
    hcap hst le_rfl
  refine ⟨hcount, ?_⟩
  rw [List.replicate_succ', runMoves_append, hcount]
  simp only [andThen, runMoves, hlast]
  rfl

end Sys2Proof.Machine
end
section
/-! SUPPORT. The decoder as tables (spec/30_encoding.md R112 to R122): each of its dispatches takes the
first entry of a list of codes, so what a code selects and what is left over is said once. -/

namespace Sys2Proof

/-! ## Selection by code -/

section Selection

variable {α β : Type} [DecidableEq α] {k : α} {b d : β} {l : List (α × β)}

/-- The meaning that the first entry with the code `k` gives, or `d` when no entry has it. -/
def selectFirst (k : α) (d : β) : List (α × β) → β
  | [] => d
  | (a, b) :: l => if k = a then b else selectFirst k d l

/-- Among different codes each entry is the first with its code. -/
theorem selectFirst_of_mem (hl : (l.map Prod.fst).Nodup) (hm : (k, b) ∈ l) :
    selectFirst k d l = b := by
  induction l with
  | nil => cases hm
  | cons e l ih =>
    obtain ⟨hnot, hl⟩ := List.nodup_cons.1 hl
    rcases List.mem_cons.1 hm with rfl | hm
    · exact if_pos rfl
    · have hne : k ≠ e.1 := fun he => hnot (he ▸ List.mem_map_of_mem hm)
      exact (if_neg hne).trans (ih hl hm)

/-- What is selected is an entry's meaning, or no entry has the code. -/
theorem selectFirst_cases (k : α) (d : β) (l : List (α × β)) :
    (k, selectFirst k d l) ∈ l ∨ (k ∉ l.map Prod.fst ∧ selectFirst k d l = d) := by
  induction l with
  | nil => exact .inr ⟨List.not_mem_nil, rfl⟩
  | cons e l ih =>
    obtain ⟨a, b⟩ := e
    by_cases hk : k = a
    · simp [selectFirst, hk]
    · simpa [selectFirst, hk] using ih

theorem selectFirst_of_not_mem (hk : k ∉ l.map Prod.fst) : selectFirst k d l = d := by
  rcases selectFirst_cases k d l with hm | ⟨-, h⟩
  · exact absurd (List.mem_map_of_mem hm) hk
  · exact h

end Selection

variable {c : Config} {p : Setup}

/-! ## Requests by their code (R114) -/

/-- What each request code means for the packet `p`, in the order of R114's table. -/
def requestRules (c : Config) (p : Setup) : List (Byte × Instr) :=
  [(c.req.getStatus, decodeGetStatus p),
    (c.req.clearFeature, .clearFeature p.bmRequestType p.wValue p.wIndex p.wLength),
    (c.req.setFeature, .setFeature p.bmRequestType p.wValue p.wIndex p.wLength),
    (c.req.setAddress, .setAddress p.bmRequestType (p.wValue.extractLsb' 0 7)
      (p.wValue.extractLsb' 7 9) p.wIndex p.wLength),
    (c.req.getDescriptor, decodeGetDescriptor c p),
    (c.req.setDescriptor, .setDescriptor p.bmRequestType p.wValue p.wIndex p.wLength),
    (c.req.getConfiguration, .getConfiguration p.bmRequestType p.wValue p.wIndex p.wLength),
    (c.req.setConfiguration, .setConfiguration p.bmRequestType (lowByte p.wValue)
      (highByte p.wValue) p.wIndex p.wLength),
    (c.req.getInterface, .getInterface p.bmRequestType p.wValue p.wIndex p.wLength),
    (c.req.setInterface, .setInterface p.bmRequestType p.wValue p.wIndex p.wLength),
    (c.req.syncFrame, .syncFrame p.bmRequestType p.wValue p.wIndex p.wLength)]

/-- The unknown-request rule of the packet (R114). -/
def unknownRequestOf (p : Setup) : Instr :=
  .unknownRequest p.bmRequestType p.bRequest p.wValue p.wIndex p.wLength

theorem decodeSetup_eq_selectFirst (c : Config) (p : Setup) :
    decodeSetup c p = selectFirst p.bRequest (unknownRequestOf p) (requestRules c p) := rfl

theorem decodeSetup_of_mem (hc : c.req.toList.Nodup) {i : Instr}
    (hm : (p.bRequest, i) ∈ requestRules c p) : decodeSetup c p = i :=
  (decodeSetup_eq_selectFirst c p).trans (selectFirst_of_mem hc hm)

theorem decodeSetup_unknown (hb : p.bRequest ∉ c.req.toList) :
    decodeSetup c p = unknownRequestOf p :=
  (decodeSetup_eq_selectFirst c p).trans (selectFirst_of_not_mem hb)

theorem decodeSetup_cases (c : Config) (p : Setup) :
    (p.bRequest, decodeSetup c p) ∈ requestRules c p
      ∨ (p.bRequest ∉ c.req.toList ∧ decodeSetup c p = unknownRequestOf p) :=
  selectFirst_cases _ _ (requestRules c p)

/-! ## GET_DESCRIPTOR by the descriptor type (R115, R116) -/

/-- What each descriptor type means for the packet `p`, in the order of R116. -/
def descriptorRules (c : Config) (p : Setup) : List (Byte × Instr) :=
  [(c.dt.device,
      .getDescriptorDevice p.bmRequestType (lowByte p.wValue) p.wIndex p.wLength),
    (c.dt.configuration,
      .getDescriptorConfiguration p.bmRequestType (lowByte p.wValue) p.wIndex p.wLength),
    (c.dt.string,
      .getDescriptorString p.bmRequestType (lowByte p.wValue) p.wIndex p.wLength),
    (c.dt.hidReport,
      .getDescriptorHidReport p.bmRequestType (lowByte p.wValue) p.wIndex p.wLength)]

/-- The unknown-type rule of the packet (R116). -/
def unknownTypeOf (p : Setup) : Instr :=
  .getDescriptorUnknownType p.bmRequestType (highByte p.wValue) (lowByte p.wValue) p.wIndex
    p.wLength

theorem decodeGetDescriptor_eq_selectFirst (c : Config) (p : Setup) :
    decodeGetDescriptor c p
      = selectFirst (highByte p.wValue) (unknownTypeOf p) (descriptorRules c p) := rfl

theorem decodeGetDescriptor_of_mem (hc : c.dt.toList.Nodup) {i : Instr}
    (hm : (highByte p.wValue, i) ∈ descriptorRules c p) : decodeGetDescriptor c p = i :=
  (decodeGetDescriptor_eq_selectFirst c p).trans (selectFirst_of_mem hc hm)

theorem decodeGetDescriptor_unknown (ht : highByte p.wValue ∉ c.dt.toList) :
    decodeGetDescriptor c p = unknownTypeOf p :=
  (decodeGetDescriptor_eq_selectFirst c p).trans (selectFirst_of_not_mem ht)

theorem decodeGetDescriptor_cases (c : Config) (p : Setup) :
    (highByte p.wValue, decodeGetDescriptor c p) ∈ descriptorRules c p
      ∨ (highByte p.wValue ∉ c.dt.toList ∧ decodeGetDescriptor c p = unknownTypeOf p) :=
  selectFirst_cases _ (unknownTypeOf p) (descriptorRules c p)

/-! ## GET_STATUS by the recipient (R119) -/

/-- What each recipient that gets a reply means for the packet `p`. -/
def statusRules (p : Setup) : List (BitVec 5 × Instr) :=
  [(0#5, .getStatusDevice (p.bmRequestType.extractLsb' 5 2) p.wValue p.wIndex p.wLength),
    (1#5, .getStatusInterface (p.bmRequestType.extractLsb' 5 2) p.wValue p.wIndex p.wLength),
    (2#5, .getStatusEndpoint (p.bmRequestType.extractLsb' 5 2) p.wValue p.wIndex p.wLength)]

/-- The rule of a GET_STATUS that does not qualify. -/
def statusOtherOf (p : Setup) : Instr :=
  .getStatusOther p.bmRequestType p.wValue p.wIndex p.wLength

theorem getStatusQualifies_iff (rt : Byte) : getStatusQualifies rt = true ↔
    rt.getLsbD 7 = true ∧ rt.extractLsb' 0 5 ∈ [0#5, 1#5, 2#5] := by
  simp [getStatusQualifies, or_assoc]

theorem decodeGetStatus_of_in (hd : p.bmRequestType.getLsbD 7 = true) :
    decodeGetStatus p
      = selectFirst (p.bmRequestType.extractLsb' 0 5) (statusOtherOf p) (statusRules p) := by
  simp only [decodeGetStatus, hd, true_and]
  rfl

theorem decodeGetStatus_of_mem (hd : p.bmRequestType.getLsbD 7 = true) {i : Instr}
    (hm : (p.bmRequestType.extractLsb' 0 5, i) ∈ statusRules p) : decodeGetStatus p = i :=
  (decodeGetStatus_of_in hd).trans
    (selectFirst_of_mem (show [0#5, 1#5, 2#5].Nodup by decide) hm)

theorem decodeGetStatus_other (hq : getStatusQualifies p.bmRequestType = false) :
    decodeGetStatus p = statusOtherOf p := by
  cases hd : p.bmRequestType.getLsbD 7 with
  | false => simp only [decodeGetStatus, hd, Bool.false_eq_true, false_and, if_false, statusOtherOf]
  | true =>
    rw [decodeGetStatus_of_in hd]
    exact selectFirst_of_not_mem fun hm =>
      absurd ((getStatusQualifies_iff _).2 ⟨hd, hm⟩) (by simp [hq])

theorem decodeGetStatus_cases (p : Setup) :
    (p.bmRequestType.getLsbD 7 = true
        ∧ (p.bmRequestType.extractLsb' 0 5, decodeGetStatus p) ∈ statusRules p)
      ∨ (getStatusQualifies p.bmRequestType = false ∧ decodeGetStatus p = statusOtherOf p) := by
  cases hq : getStatusQualifies p.bmRequestType with
  | false => exact .inr ⟨rfl, decodeGetStatus_other hq⟩
  | true =>
    obtain ⟨hd, hr⟩ := (getStatusQualifies_iff _).1 hq
    rw [decodeGetStatus_of_in hd]
    rcases selectFirst_cases (p.bmRequestType.extractLsb' 0 5) (statusOtherOf p) (statusRules p)
      with hm | ⟨hn, -⟩
    · exact .inl ⟨hd, hm⟩
    · exact absurd hr hn

/-! ## Frames by their opcode (R122) -/

/-- What each frame opcode means with the other fields, in the order of R122. -/
def frameRules (c : Config) (e1 e2 e3 : Word) (payload : Bytes) :
    List (Word × Except DecodeError Instr) :=
  [(c.op.deviceInfo, .ok (.frameDeviceInfo e1 e2 e3 payload)),
    (c.op.setupWrite, .ok (.frameSetupWrite e1 e2 e3 payload)),
    (c.op.finishWrite, .ok (.frameFinishWrite e1 e2 e3 payload)),
    (c.op.hardwareReset, .ok (.frameHardwareReset e1 e2 e3 payload)),
    (c.op.ack, .ok (.frameAck e1 e2 e3 payload))]

theorem decodeFrameFields_eq_selectFirst (c : Config) (op e1 e2 e3 : Word) (payload : Bytes) :
    decodeFrameFields c op e1 e2 e3 payload
      = selectFirst op (.error (.unknownFrameOpcode op)) (frameRules c e1 e2 e3 payload) := rfl

theorem decodeFrameFields_of_mem {op e1 e2 e3 : Word} {payload : Bytes}
    {r : Except DecodeError Instr} (hc : c.op.toList.Nodup)
    (hm : (op, r) ∈ frameRules c e1 e2 e3 payload) :
    decodeFrameFields c op e1 e2 e3 payload = r :=
  (decodeFrameFields_eq_selectFirst ..).trans (selectFirst_of_mem hc hm)

theorem decodeFrameFields_cases (c : Config) (op e1 e2 e3 : Word) (payload : Bytes) :
    (op, decodeFrameFields c op e1 e2 e3 payload) ∈ frameRules c e1 e2 e3 payload
      ∨ decodeFrameFields c op e1 e2 e3 payload = .error (.unknownFrameOpcode op) := by
  rw [decodeFrameFields_eq_selectFirst]
  exact (selectFirst_cases ..).imp_right And.right

end Sys2Proof
end
section
/-! SUPPORT. Decode and encode agree (spec/30_encoding.md R110 to R127): each rule of the decoder's
tables is the inverse of its line of the encoder. -/

namespace Sys2Proof

variable {c : Config} {p : Setup}

/-! ## What each format reads -/

/-- A packet is read back as its fields, and what they select is what it decodes to. -/
theorem decode_packet {rt b : Byte} {v x l : Half} {i : Instr}
    (h : decodeSetup c ⟨rt, b, v, x, l⟩ = i) : decode c .setup (packet rt b v x l) = .ok i := by
  simp [decode, packet, h]

theorem decodeSetup_getStatus (hc : c.req.toList.Nodup) (hb : p.bRequest = c.req.getStatus) :
    decodeSetup c p = decodeGetStatus p :=
  decodeSetup_of_mem hc (by simp [requestRules, hb])

theorem decodeSetup_getDescriptor (hc : c.req.toList.Nodup)
    (hb : p.bRequest = c.req.getDescriptor) : decodeSetup c p = decodeGetDescriptor c p :=
  decodeSetup_of_mem hc (by simp [requestRules, hb])

/-- A frame with one of the five opcodes decodes to what that opcode means. -/
theorem decode_frame_of_mem (hc : c.op.toList.Nodup) {op e1 e2 e3 : Word} {payload : Bytes}
    {r : Except DecodeError Instr} (hp : (payload.length == 48) = true)
    (hm : (op, r) ∈ frameRules c e1 e2 e3 payload) :
    decode c .frame (frameBytes op e1 e2 e3 payload) = r := by
  rw [decode, decodeFrame_frameBytes _ _ _ _ _ _ (beq_iff_eq.1 hp), decodeFrameFields_of_mem hc hm]

/-! ## Decoding an encoding -/

/-- Settles O5: the instruction is the rule its code selects, and the operands are read back from
the bytes they were written to. -/
theorem decodeOfEncodeIsTheInstruction : Obligations.DecodeOfEncodeIsTheInstruction := by
  intro c i hc hw
  obtain ⟨hreq, hdt, hop⟩ := c.codesDistinct_iff.1 hc
  cases i with
  | crcSeed | crcFeed | crcRaw | crcFinal | poll | sendFrame => rfl
  | crcLoad v => simp [encode, Instr.format, decode, decodeCall, bytes32]
  | getDescriptorDevice | getDescriptorConfiguration | getDescriptorString
  | getDescriptorHidReport =>
    refine decode_packet ((decodeSetup_getDescriptor hreq rfl).trans
      (decodeGetDescriptor_of_mem hdt ?_))
    simp [descriptorRules]
  | getDescriptorUnknownType rt t index x l =>
    refine decode_packet ((decodeSetup_getDescriptor hreq rfl).trans
      ((decodeGetDescriptor_unknown ?_).trans ?_))
    · simpa [wellFormed] using hw
    · simp [unknownTypeOf]
  | getStatusDevice | getStatusInterface | getStatusEndpoint =>
    refine decode_packet ((decodeSetup_getStatus hreq rfl).trans (decodeGetStatus_of_mem ?_ ?_))
    · exact statusRequestType_dir ..
    · simp [statusRules]
  | getStatusOther =>
    refine decode_packet ((decodeSetup_getStatus hreq rfl).trans (decodeGetStatus_other ?_))
    simpa [wellFormed] using hw
  | clearFeature | setFeature | setDescriptor | getConfiguration | getInterface | setInterface
  | syncFrame | setAddress | setConfiguration =>
    refine decode_packet (decodeSetup_of_mem hreq ?_)
    simp [requestRules]
  | unknownRequest =>
    refine decode_packet (decodeSetup_unknown ?_)
    simpa [wellFormed] using hw
  | frameDeviceInfo | frameSetupWrite | frameFinishWrite | frameHardwareReset | frameAck =>
    exact decode_frame_of_mem hop hw (by simp [frameRules])

/-! ## Encoding what was decoded -/

/-- The instruction is the meaning of these bytes in this format: it is well-formed there and its
encoding is the bytes. -/
def IsMeaningOf (c : Config) (f : Format) (bytes : Bytes) (i : Instr) : Prop :=
  wellFormed c i = true ∧ i.format = f ∧ encode c i = bytes

theorem decodeCall_isMeaning {op : Byte} {operands : Bytes} {i : Instr}
    (h : decodeCall op operands = .ok i) : IsMeaningOf c .opsel (op :: operands) i := by
  unfold decodeCall at h
  -- one split per code, in the order of R127's table
  rcases ite_eq_iff.1 h with ⟨rfl, h⟩ | ⟨-, h⟩
  · obtain ⟨rfl, rfl⟩ := eq_of_withoutOperands h; exact ⟨rfl, rfl, rfl⟩
  rcases ite_eq_iff.1 h with ⟨rfl, h⟩ | ⟨-, h⟩
  · split at h
    · cases h; exact ⟨rfl, rfl, congrArg _ (bytes32_u32le ..)⟩
    · cases h
  rcases ite_eq_iff.1 h with ⟨rfl, h⟩ | ⟨-, h⟩
  · cases h; exact ⟨rfl, rfl, rfl⟩
  rcases ite_eq_iff.1 h with ⟨rfl, h⟩ | ⟨-, h⟩
  · obtain ⟨rfl, rfl⟩ := eq_of_withoutOperands h; exact ⟨rfl, rfl, rfl⟩
  rcases ite_eq_iff.1 h with ⟨rfl, h⟩ | ⟨-, h⟩
  · obtain ⟨rfl, rfl⟩ := eq_of_withoutOperands h; exact ⟨rfl, rfl, rfl⟩
  rcases ite_eq_iff.1 h with ⟨rfl, h⟩ | ⟨-, h⟩
  · obtain ⟨rfl, rfl⟩ := eq_of_withoutOperands h; exact ⟨rfl, rfl, rfl⟩
  rcases ite_eq_iff.1 h with ⟨rfl, h⟩ | ⟨-, h⟩
  · cases h; exact ⟨rfl, rfl, rfl⟩
  · cases h

theorem decodeGetDescriptor_isMeaning (hb : p.bRequest = c.req.getDescriptor) :
    IsMeaningOf c .setup p.toBytes (decodeGetDescriptor c p) := by
  have hv := u16le_low_high p.wValue
  rcases decodeGetDescriptor_cases c p with hm | ⟨ht, hi⟩
  · simp only [descriptorRules, List.mem_cons, Prod.mk.injEq, List.not_mem_nil, or_false] at hm
    rcases hm with ⟨ht, hi⟩ | ⟨ht, hi⟩ | ⟨ht, hi⟩ | ⟨ht, hi⟩ <;> rw [hi]
    all_goals exact ⟨rfl, rfl, by simp only [encode, ← hb, ← ht, hv]; rfl⟩
  · rw [hi]
    exact ⟨by simpa [unknownTypeOf, wellFormed] using ht, rfl,
      by simp only [unknownTypeOf, encode, ← hb, hv]; rfl⟩

theorem decodeGetStatus_isMeaning (hb : p.bRequest = c.req.getStatus) :
    IsMeaningOf c .setup p.toBytes (decodeGetStatus p) := by
  rcases decodeGetStatus_cases p with ⟨hd, hm⟩ | ⟨hq, hi⟩
  · have hrt := statusRequestType_eta hd
    simp only [statusRules, List.mem_cons, Prod.mk.injEq, List.not_mem_nil, or_false] at hm
    rcases hm with ⟨hr, hi⟩ | ⟨hr, hi⟩ | ⟨hr, hi⟩ <;> rw [hi]
    all_goals
      rw [hr] at hrt
      exact ⟨rfl, rfl, by simp only [encode, ← hb, hrt]; rfl⟩
  · rw [hi]
    exact ⟨by simp [statusOtherOf, wellFormed, hq], rfl,
      by simp only [statusOtherOf, encode, ← hb]; rfl⟩

theorem decodeSetup_isMeaning (c : Config) (p : Setup) :
    IsMeaningOf c .setup p.toBytes (decodeSetup c p) := by
  rcases decodeSetup_cases c p with hm | ⟨hb, hi⟩
  · simp only [requestRules, List.mem_cons, Prod.mk.injEq, List.not_mem_nil, or_false] at hm
    rcases hm with ⟨hb, hi⟩ | ⟨hb, hi⟩ | ⟨hb, hi⟩ | ⟨hb, hi⟩ | ⟨hb, hi⟩ | ⟨hb, hi⟩ | ⟨hb, hi⟩
      | ⟨hb, hi⟩ | ⟨hb, hi⟩ | ⟨hb, hi⟩ | ⟨hb, hi⟩ <;> rw [hi]
    case inl => exact decodeGetStatus_isMeaning hb
    case inr.inr.inr.inr.inl => exact decodeGetDescriptor_isMeaning hb
    all_goals
      exact ⟨rfl, rfl, by simp only [encode, ← hb, append_addr_high, u16le_low_high]; rfl⟩
  · rw [hi]
    exact ⟨by simpa [unknownRequestOf, wellFormed] using hb, rfl, rfl⟩

theorem decodeFrameFields_isMeaning {op e1 e2 e3 : Word} {payload : Bytes} {i : Instr}
    (hp : payload.length = 48) (h : decodeFrameFields c op e1 e2 e3 payload = .ok i) :
    IsMeaningOf c .frame (frameBytes op e1 e2 e3 payload) i := by
  rcases decodeFrameFields_cases c op e1 e2 e3 payload with hm | hu
  · rw [h] at hm
    simp only [frameRules, List.mem_cons, Prod.mk.injEq, Except.ok.injEq, List.not_mem_nil,
      or_false] at hm
    rcases hm with ⟨rfl, rfl⟩ | ⟨rfl, rfl⟩ | ⟨rfl, rfl⟩ | ⟨rfl, rfl⟩ | ⟨rfl, rfl⟩
    all_goals exact ⟨beq_iff_eq.2 hp, rfl, rfl⟩
  · cases h.symm.trans hu

/-- Settles O6: in each format what the bytes select is read off them whole. -/
theorem encodeOfDecodeIsTheWord : Obligations.EncodeOfDecodeIsTheWord := by
  intro c f bytes i h
  cases f with
  | opsel =>
    cases bytes with
    | nil => cases h
    | cons op operands => exact decodeCall_isMeaning h
  | setup =>
    simp only [decode] at h
    split at h
    · next p hp =>
      cases h
      rw [← toBytes_of_parseSetup hp]
      exact decodeSetup_isMeaning c p
    · cases h
  | frame =>
    simp only [decode] at h
    rcases decodeFrame_cases c bytes with ⟨op, e1, e2, e3, payload, hp, rfl, hd⟩ | ⟨-, hd⟩
    · exact decodeFrameFields_isMeaning hp (hd ▸ h)
    · cases h.symm.trans hd

/-! ## What each code selects -/

/-- A recipient above 2, or an OUT packet, does not qualify for a reply to GET_STATUS. -/
theorem getStatusQualifies_of_other {rt : Byte}
    (h : rt.getLsbD 7 = false ∨ 2 < (rt.extractLsb' 0 5).toNat) : getStatusQualifies rt = false := by
  rw [← Bool.not_eq_true, getStatusQualifies_iff]
  rintro ⟨hd, hr⟩
  rcases h with h | h
  · cases h.symm.trans hd
  · simp only [List.mem_cons, List.not_mem_nil, or_false] at hr
    rcases hr with hr | hr | hr <;> simp [hr] at h

/-- Settles O8: a code, a type or a recipient selects the entry of its table. -/
theorem requestCodesSelectRequests : Obligations.RequestCodesSelectRequests := by
  refine ⟨rfl, rfl, fun c hc rt b v x l => ?_⟩
  obtain ⟨hreq, hdt, -⟩ := c.codesDistinct_iff.1 hc
  have hdesc := decodeSetup_getDescriptor hreq (p := ⟨rt, c.req.getDescriptor, v, x, l⟩) rfl
  have hstat := decodeSetup_getStatus hreq (p := ⟨rt, c.req.getStatus, v, x, l⟩) rfl
  refine ⟨?_, ?_, ?_, ?_, ?_, ?_, ?_, ?_, ?_, fun h => decodeSetup_unknown h, ?_, ?_, ?_, ?_,
    fun h => hdesc.trans (decodeGetDescriptor_unknown h), ?_, ?_, ?_,
    fun h => hstat.trans (decodeGetStatus_other (getStatusQualifies_of_other h))⟩
  iterate 9 exact decodeSetup_of_mem hreq (by simp [requestRules, lowByte, highByte])
  iterate 4
    exact fun h => hdesc.trans (decodeGetDescriptor_of_mem hdt
      (by simp [descriptorRules, lowByte, highByte, h]))
  iterate 3
    intro hd hr
    refine hstat.trans (decodeGetStatus_of_mem (p := ⟨rt, _, v, x, l⟩) hd ?_)
    simp [statusRules, hr]

end Sys2Proof
end
section
/-! SUPPORT. The decoder and the opcode table (spec/30_encoding.md R112): the decoded request's row
matches the packed word, and no row of a lower or equal priority number does. -/

namespace Sys2Proof

variable {p : Setup} {r r' : TableRow}

/-! ## Rows that match -/

theorem TableRow.selects_iff (r : TableRow) (w : BitVec 64) :
    r.selects w = true ↔ w &&& r.mask = r.value := beq_iff_eq

/-- What a row that matches says of a byte of the packed word. -/
theorem TableRow.byte_of_selects {w : BitVec 64} (h : r.selects w = true) {k : Nat} (hk : k < 8) :
    byteOf k w &&& byteOf k r.mask = byteOf k r.value :=
  (and_eq_iff_bytes ..).1 ((r.selects_iff w).1 h) k hk

/-- Two rows of one priority fix some bit that both read to different values. -/
theorem setupRows_disjoint : ∀ r ∈ setupRows, ∀ r' ∈ setupRows, r.priority = r'.priority →
    r' = r ∨ r.mask &&& r'.mask &&& (r.value ^^^ r'.value) ≠ 0 := by decide

/-- Rows that match one word agree on every bit that both read. -/
theorem TableRow.agree_of_selects {w : BitVec 64} (h : r.selects w = true)
    (h' : r'.selects w = true) : r.mask &&& r'.mask &&& (r.value ^^^ r'.value) = 0 := by
  rw [selects_iff] at h h'
  rw [← h, ← h']
  ext i
  simp only [BitVec.getElem_and, BitVec.getElem_xor]
  cases r.mask[i] <;> cases r'.mask[i] <;> simp

/-! ## The row that selects -/

/-- `r` is the matching row of the lowest priority number. -/
def IsSelectingRow (w : BitVec 64) (r : TableRow) : Prop :=
  r ∈ setupRows ∧ r.selects w = true
    ∧ ∀ r' ∈ setupRows, r'.selects w = true → r' = r ∨ r.priority < r'.priority

/-- A matching row selects when no row before it in priority matches. -/
theorem isSelectingRow_of_first {w : BitVec 64} (hr : r ∈ setupRows) (h : r.selects w = true)
    (hfirst : ∀ r' ∈ setupRows, r'.priority < r.priority → ¬ r'.selects w = true) :
    IsSelectingRow w r := by
  refine ⟨hr, h, fun r' hr' h' => ?_⟩
  rcases Nat.lt_trichotomy r.priority r'.priority with hlt | heq | hgt
  · exact .inr hlt
  · exact .inl ((setupRows_disjoint r hr r' hr' heq).resolve_right
      (not_not_intro (TableRow.agree_of_selects h h')))
  · exact absurd h' (hfirst r' hr' hgt)

theorem setupRows_priority_pos : ∀ r ∈ setupRows, 1 ≤ r.priority := by decide

/-- No row comes before one of priority 1. -/
theorem isSelectingRow_of_priority_one {w : BitVec 64} (hr : r ∈ setupRows) (hp : r.priority = 1)
    (h : w &&& r.mask = r.value) : IsSelectingRow w r :=
  isSelectingRow_of_first hr ((r.selects_iff w).2 h) fun r' hr' hlt =>
    absurd (setupRows_priority_pos r' hr') (by omega)

/-- The row of the decoded instruction selects the packet. -/
def RowSelects (p : Setup) (i : Instr) : Prop :=
  ∃ r, r.mnemonic = i.mnemonic ∧ IsSelectingRow p.word r

/-! ## GET_DESCRIPTOR -/

/-- A row before GET_DESCRIPTOR's fallback that matches its request code tests for one of the four
types. -/
theorem setupRows_before_unknownType : ∀ r ∈ setupRows, r.priority < 2 →
    6#8 &&& byteOf 1 r.mask = byteOf 1 r.value →
    byteOf 3 r.mask = 0xFF#8 ∧ byteOf 3 r.value ∈ Config.default.dt.toList := by decide

/-- A request whose row tests for GET_DESCRIPTOR and a type is selected by that row. -/
theorem rowSelects_of_type {t : Byte} {value : BitVec 64} {i : Instr} (hb : p.bRequest = 6)
    (ht : highByte p.wValue = t)
    (hv : ∀ k < 8, byteOf k value = if k = 1 then 6 else if k = 3 then t else 0 := by decide)
    (hr : ⟨i.mnemonic, value, 0x00000000FF00FF00, 1⟩ ∈ setupRows := by
      simp [setupRows, Instr.mnemonic]) : RowSelects p i :=
  ⟨_, rfl, isSelectingRow_of_priority_one hr rfl ((sel_desc p 6 t value hv).2 ⟨hb, ht⟩)⟩

theorem rowSelects_unknownType (hb : p.bRequest = 6)
    (ht : highByte p.wValue ∉ Config.default.dt.toList) : RowSelects p (unknownTypeOf p) := by
  have hmatch := (sel_req p 6 0x0000000000000600 (by decide)).2 hb
  refine ⟨⟨_, _, _, 2⟩, rfl, isSelectingRow_of_first (by decide)
    ((TableRow.selects_iff ..).2 hmatch) fun r hr hlt hs => ?_⟩
  have h1 := TableRow.byte_of_selects hs (k := 1) (by decide)
  have h3 := TableRow.byte_of_selects hs (k := 3) (by decide)
  rw [byteOf_word_1, hb] at h1
  obtain ⟨hm, hv⟩ := setupRows_before_unknownType r hr hlt h1
  rw [byteOf_word_3, hm, and_ff] at h3
  exact ht (h3 ▸ hv)

theorem rowSelects_getDescriptor (hb : p.bRequest = 6) :
    RowSelects p (decodeGetDescriptor Config.default p) := by
  rcases decodeGetDescriptor_cases Config.default p with hm | ⟨ht, hi⟩
  · simp only [descriptorRules, List.mem_cons, Prod.mk.injEq, List.not_mem_nil, or_false] at hm
    rcases hm with ⟨ht, hi⟩ | ⟨ht, hi⟩ | ⟨ht, hi⟩ | ⟨ht, hi⟩ <;> rw [hi]
    · exact rowSelects_of_type (value := 0x01000600) hb ht
    · exact rowSelects_of_type (value := 0x02000600) hb ht
    · exact rowSelects_of_type (value := 0x03000600) hb ht
    · exact rowSelects_of_type (value := 0x22000600) hb ht
  · rw [hi]
    exact rowSelects_unknownType hb ht

/-! ## GET_STATUS -/

/-- A row before GET_STATUS's fallback that matches its request code tests for one of the three
recipients. -/
theorem setupRows_before_statusOther : ∀ r ∈ setupRows, r.priority < 2 →
    0#8 &&& byteOf 1 r.mask = byteOf 1 r.value →
    byteOf 0 r.mask = 0x9F ∧ byteOf 0 r.value ∈ [0x80#8, 0x81#8, 0x82#8] := by decide

theorem getStatusQualifies_of_masked {rt : Byte} (h : rt &&& 0x9F ∈ [0x80#8, 0x81#8, 0x82#8]) :
    getStatusQualifies rt = true := by
  obtain ⟨h0, h1, h2⟩ := stat_iff rt
  simp only [List.mem_cons, List.not_mem_nil, or_false] at h
  rw [getStatusQualifies_iff]
  rcases h with h | h | h
  · obtain ⟨hd, hr⟩ := h0.1 h; simp [hd, hr]
  · obtain ⟨hd, hr⟩ := h1.1 h; simp [hd, hr]
  · obtain ⟨hd, hr⟩ := h2.1 h; simp [hd, hr]

/-- A request whose row tests for GET_STATUS, IN, and a recipient is selected by that row. -/
theorem rowSelects_of_recipient {rt : Byte} {value : BitVec 64} {i : Instr} (hb : p.bRequest = 0)
    (hrt : p.bmRequestType &&& 0x9F = rt)
    (hv : ∀ k < 8, byteOf k value = if k = 0 then rt else 0 := by decide)
    (hr : ⟨i.mnemonic, value, 0x000000000000FF9F, 1⟩ ∈ setupRows := by
      simp [setupRows, Instr.mnemonic]) : RowSelects p i :=
  ⟨_, rfl, isSelectingRow_of_priority_one hr rfl ((sel_status p rt value hv).2 ⟨hb, hrt⟩)⟩

theorem rowSelects_statusOther (hb : p.bRequest = 0)
    (hq : getStatusQualifies p.bmRequestType = false) : RowSelects p (statusOtherOf p) := by
  have hmatch := (sel_req p 0 0x0000000000000000 (by decide)).2 hb
  refine ⟨⟨_, _, _, 2⟩, rfl, isSelectingRow_of_first (by decide)
    ((TableRow.selects_iff ..).2 hmatch) fun r hr hlt hs => ?_⟩
  have h1 := TableRow.byte_of_selects hs (k := 1) (by decide)
  have h0 := TableRow.byte_of_selects hs (k := 0) (by decide)
  rw [byteOf_word_1, hb] at h1
  obtain ⟨hm, hv⟩ := setupRows_before_statusOther r hr hlt h1
  rw [byteOf_word_0, hm] at h0
  exact absurd (getStatusQualifies_of_masked (h0 ▸ hv)) (by simp [hq])

theorem rowSelects_getStatus (hb : p.bRequest = 0) : RowSelects p (decodeGetStatus p) := by
  obtain ⟨h0, h1, h2⟩ := stat_iff p.bmRequestType
  rcases decodeGetStatus_cases p with ⟨hd, hm⟩ | ⟨hq, hi⟩
  · simp only [statusRules, List.mem_cons, Prod.mk.injEq, List.not_mem_nil, or_false] at hm
    rcases hm with ⟨hr, hi⟩ | ⟨hr, hi⟩ | ⟨hr, hi⟩ <;> rw [hi]
    · exact rowSelects_of_recipient (value := 0x80) hb (h0.2 ⟨hd, hr⟩)
    · exact rowSelects_of_recipient (value := 0x81) hb (h1.2 ⟨hd, hr⟩)
    · exact rowSelects_of_recipient (value := 0x82) hb (h2.2 ⟨hd, hr⟩)
  · rw [hi]
    exact rowSelects_statusOther hb hq

/-! ## All requests -/

/-- A row before the unknown request's tests for one of the eleven codes. -/
theorem setupRows_before_unknownRequest : ∀ r ∈ setupRows, r.priority < 3 →
    byteOf 1 r.mask = 0xFF#8 ∧ byteOf 1 r.value ∈ Config.default.req.toList := by decide

theorem rowSelects_unknownRequest (hb : p.bRequest ∉ Config.default.req.toList) :
    RowSelects p (unknownRequestOf p) := by
  refine ⟨⟨_, 0x0000000000000000, 0x0000000000000000, 3⟩, rfl,
    isSelectingRow_of_first (by decide) ((TableRow.selects_iff ..).2 BitVec.and_zero)
      fun r hr hlt hs => ?_⟩
  have h1 := TableRow.byte_of_selects hs (k := 1) (by decide)
  obtain ⟨hm, hv⟩ := setupRows_before_unknownRequest r hr hlt
  rw [byteOf_word_1, hm, and_ff] at h1
  exact hb (h1 ▸ hv)

/-- A request whose row tests for its code only is selected by that row. -/
theorem rowSelects_of_code {code : Byte} {value : BitVec 64} {i : Instr} (hb : p.bRequest = code)
    (hv : ∀ k < 8, byteOf k value = if k = 1 then code else 0 := by decide)
    (hr : ⟨i.mnemonic, value, 0x000000000000FF00, 1⟩ ∈ setupRows := by
      simp [setupRows, Instr.mnemonic]) : RowSelects p i :=
  ⟨_, rfl, isSelectingRow_of_priority_one hr rfl ((sel_req p code value hv).2 hb)⟩

theorem rowSelects_decodeSetup (p : Setup) : RowSelects p (decodeSetup Config.default p) := by
  rcases decodeSetup_cases Config.default p with hm | ⟨hb, hi⟩
  · simp only [requestRules, List.mem_cons, Prod.mk.injEq, List.not_mem_nil, or_false] at hm
    rcases hm with ⟨hb, hi⟩ | ⟨hb, hi⟩ | ⟨hb, hi⟩ | ⟨hb, hi⟩ | ⟨hb, hi⟩ | ⟨hb, hi⟩ | ⟨hb, hi⟩
      | ⟨hb, hi⟩ | ⟨hb, hi⟩ | ⟨hb, hi⟩ | ⟨hb, hi⟩ <;> rw [hi]
    · exact rowSelects_getStatus hb
    · exact rowSelects_of_code (value := 0x0100) hb
    · exact rowSelects_of_code (value := 0x0300) hb
    · exact rowSelects_of_code (value := 0x0500) hb
    · exact rowSelects_getDescriptor hb
    · exact rowSelects_of_code (value := 0x0700) hb
    · exact rowSelects_of_code (value := 0x0800) hb
    · exact rowSelects_of_code (value := 0x0900) hb
    · exact rowSelects_of_code (value := 0x0A00) hb
    · exact rowSelects_of_code (value := 0x0B00) hb
    · exact rowSelects_of_code (value := 0x0C00) hb
  · rw [hi]
    exact rowSelects_unknownRequest hb

/-- Settles O7: the decoded request's row matches, and it is the first to match. -/
theorem setupSelectionFollowsTable : Obligations.SetupSelectionFollowsTable := by
  intro p
  obtain ⟨r, hname, hr, hsel, hfirst⟩ := rowSelects_decodeSetup p
  exact ⟨r, hr, hname, hsel, hfirst⟩

end Sys2Proof
end
section
/-! SUPPORT. Where a step fetches its instruction (spec/30_encoding.md R127, spec/41_usb_poll_control.md
R187, spec/44_environment.md R280), and words written out from the spec. -/

namespace Sys2Proof.Machine

variable {s : State} {i : Instr}

theorem invoke_of_decode {call : Bytes} (h : decode s.cfg .opsel call = .ok i) :
    move (.invoke call) s = exec i s := by
  simp only [move, invoke, h]

/-- Past the consumed handshake the ENGINE runs the request in the latch. -/
theorem engineStep_of_latched (hq : s.seq = .hold .setupClr) (hr : s.ep0.rxSetup = false)
    (h : decode s.cfg .setup s.setup.toBytes = .ok i) : move .engine s = exec i s := by
  have hi : latchedRequest s = i := by simpa [decode, latchedRequest] using h
  rw [move, engineStep_ready hq (by simp [holdReady, hr]), resume, hi]

theorem serveFrame_of_decode {frame : Bytes} {banks : List Bank}
    (hq : s.seq = .hold (.dispatch frame banks)) (h : decode s.cfg .frame frame = .ok i) :
    move .serveFrame s = exec i s := by
  simp only [move, serveFrame, atDispatch, hq, h]

/-- A step makes the move at the head of the script. -/
theorem step_of_script {m : Move} {rest : List Move} (hw : s.cfg.wf = true)
    (hs : s.script = m :: rest) : step s = move m { s with script := rest } := by
  simp [step_of_wf hw, nextMoveOf, hs]

/-- Settles O11: the step makes the move, and each move fetches from its own place. -/
theorem stepRunsTheDecodedInstruction : Obligations.StepRunsTheDecodedInstruction := by
  refine fun s i rest hw => ⟨fun call hs hd => ?_, fun hs hq hr hd => ?_,
      fun frame banks hs hq hd => ?_⟩ <;> rw [step_of_script hw hs]
  · exact invoke_of_decode (s := { s with script := rest }) hd
  · exact engineStep_of_latched (s := { s with script := rest }) hq hr hd
  · exact serveFrame_of_decode (s := { s with script := rest }) hq hd

/-- Settles O4: the seven words are evaluated. -/
theorem decodeSampleWords : Obligations.DecodeSampleWords := by
  unfold Obligations.DecodeSampleWords
  decide

end Sys2Proof.Machine
end
section
/-! SUPPORT. SendFrame run to its end against a BUS that answers (spec/43_hid_framer.md R250), and the
reply of a command frame (spec/30_encoding.md R124). -/

namespace Sys2Proof.Machine

variable {s : State}

/-! ## Rounds -/

theorem andThen_assoc (r : Result) (k k' : State → Result) :
    andThen (andThen r k) k' = andThen r fun s => andThen (k s) k' := by cases r <;> rfl

/-- The rounds after the first go on from the state it leaves. -/
theorem runMoves_ackRounds_succ (n : TxEp) (k : Nat) (r : Result) :
    andThen r (runMoves (ackRounds n (k + 1)))
      = andThen (andThen r (runMoves (ackRound n))) (runMoves (ackRounds n k)) := by
  rw [andThen_assoc]
  exact congrArg _ (funext fun s => runMoves_append ..)

/-! ## SendFrame's loop -/

/-- One round of the loop: the next chunk of at most eight bytes reaches the host, and the loop goes
on with the rest. -/
theorem sendFrameLoop_round {x : Tx} (h : canSendFrame s) (hr : x.rem ≠ 0)
    (hin : txInRange s.cfg x) (c : Caller) :
    andThen (sendFrameLoop x c s) (runMoves (ackRound .ep2))
      = sendFrameLoop x.advance c
        { delivered .ep2 [((srcBytes s.cfg x.src).drop x.off).take (chunkLen x)] s with
          seq := .hold (.frmAckClr x c) } := by
  have ⟨_, hfifo, htrig, _, _⟩ := h
  rw [sendFrameLoop_eq hr ⟨hfifo, htrig⟩ hin, andThen_next]
  exact ackRound_frm h _ x c

/-- With one round per packet the host receives the rest of the source, `l`, in packets of eight, and
SendFrame returns; only its own iteration counter may differ. -/
theorem sendFrameLoop_delivers {l : Bytes} {x : Tx} (h : canSendFrame s)
    (hl : (srcBytes s.cfg x.src).drop x.off = l) (hrem : x.rem = l.length) (c : Caller) :
    ∃ spin, andThen (sendFrameLoop x c s) (runMoves (ackRounds .ep2 (packets l).length))
      = .next (frameReturn c { delivered .ep2 (packets l) s with spin := spin }) := by
  induction hn : (packets l).length generalizing l x s with
  | zero =>
    have hnil : l = [] := by
      by_contra hne
      simp [packets_cons hne] at hn
    subst hnil
    refine ⟨s.spin, ?_⟩
    rw [sendFrameLoop_done hrem]
    simp [packets_nil, delivered, ackRounds, runMoves]
  | succ n ih =>
    have hne : l ≠ [] := by rintro rfl; cases hn
    have hpos : 0 < l.length := List.length_pos_iff.2 hne
    have hlen := congrArg List.length hl
    rw [List.length_drop] at hlen
    have hin : txInRange s.cfg x := by unfold txInRange; omega
    have hchunk : ((srcBytes s.cfg x.src).drop x.off).take (chunkLen x) = l.take 8 := by
      rw [hl, chunkLen, hrem, fifoDepth, List.take_eq_take_iff]
      omega
    have hround := sendFrameLoop_round h (by omega) hin c
    rw [hchunk] at hround
    have hrest : (srcBytes s.cfg x.src).drop x.advance.off = l.drop 8 := by
      rw [Tx.advance_off, ← List.drop_drop, hl, chunkLen, hrem, fifoDepth, List.drop_eq_drop_iff]
      omega
    rw [packets_cons hne, List.length_cons, Nat.succ.injEq] at hn
    obtain ⟨spin, hrun⟩ := ih (x := x.advance)
      (s := { delivered .ep2 [l.take 8] s with seq := .hold (.frmAckClr x c) }) h hrest
      (by rw [Tx.advance_rem, chunkLen, hrem, fifoDepth, List.length_drop]; omega) hn
    refine ⟨spin, ?_⟩
    rw [runMoves_ackRounds_succ, hround, hrun, packets_cons hne]
    cases c <;> simp [frameReturn, goto, delivered]

theorem startSendFrame_delivers (h : canSendFrame s) (bytes : Bytes) (c : Caller) :
    ∃ spin, andThen (startSendFrame bytes c s) (runMoves (ackRounds .ep2 (packets bytes).length))
      = .next (frameReturn c { delivered .ep2 (packets bytes) s with spin := spin }) :=
  sendFrameLoop_delivers h rfl rfl c

/-! ## The reply -/

/-- What CONSUMER answers, with the fields of the frame. -/
def answeredCommands (e1 e2 e3 : Word) (p : Bytes) : List Instr :=
  [.frameDeviceInfo e1 e2 e3 p, .frameSetupWrite e1 e2 e3 p, .frameFinishWrite e1 e2 e3 p,
    .frameHardwareReset e1 e2 e3 p]

/-- Each of the four opcodes decodes to a command that is answered, under equal codes too. -/
theorem decodeFrameFields_of_answered {c : Config} {op : Word} (hop : op ∈ c.op.answered)
    (e1 e2 e3 : Word) (p : Bytes) :
    ∃ i ∈ answeredCommands e1 e2 e3 p, decodeFrameFields c op e1 e2 e3 p = .ok i := by
  unfold decodeFrameFields answeredCommands
  split_ifs with h1 h2 h3 h4
  · exact ⟨_, by simp, rfl⟩
  · exact ⟨_, by simp, rfl⟩
  · exact ⟨_, by simp, rfl⟩
  · exact ⟨_, by simp, rfl⟩
  all_goals simp [FrameOpcodes.answered, h1, h2, h3, h4] at hop

/-- A command that is answered has its own effect on the storage, and the echo is sent. -/
theorem exec_of_answered {frame : Bytes} {rest : List Bank}
    (hq : s.seq = .hold (.dispatch frame rest)) {e1 e2 e3 : Word} {p : Bytes} {i : Instr}
    (hi : i ∈ answeredCommands e1 e2 e3 p) :
    ∃ staging flash k, exec i s = startSendFrame (ackFrame s.cfg e1 e2 e3 p)
      (.consumer frame rest) (withStorage staging flash k s) := by
  simp only [answeredCommands, List.mem_cons, List.not_mem_nil, or_false] at hi
  rcases hi with rfl | rfl | rfl | rfl
  · exact ⟨s.staging, s.flash, s.freeCount, replyAck_of_dispatch hq⟩
  · obtain ⟨staging, k, hst⟩ := stagePayload_eq_withStorage e1 p s
    refine ⟨staging, s.flash, k, ?_⟩
    rw [exec, execFrameSetupWrite, hst]
    exact replyAck_of_dispatch hq
  · exact ⟨_, _, s.freeCount, replyAck_of_dispatch (s := finishPage e1 p s) hq⟩
  · exact ⟨s.staging, s.flash, s.freeCount, replyAck_of_dispatch hq⟩

theorem serveFrame_of_answered {op e1 e2 e3 : Word} {p : Bytes} {rest : List Bank}
    (hp : p.length = 48) (hq : s.seq = .hold (.dispatch (frameBytes op e1 e2 e3 p) rest))
    (hop : op ∈ s.cfg.op.answered) :
    ∃ staging flash k, move .serveFrame s
      = startSendFrame (ackFrame s.cfg e1 e2 e3 p) (.consumer (frameBytes op e1 e2 e3 p) rest)
        (withStorage staging flash k s) := by
  obtain ⟨i, hi, hd⟩ := decodeFrameFields_of_answered hop e1 e2 e3 p
  obtain ⟨staging, flash, k, he⟩ := exec_of_answered hq hi
  have hdecode := (decodeFrame_frameBytes s.cfg op e1 e2 e3 p hp).trans hd
  exact ⟨staging, flash, k, (serveFrame_of_decode hq hdecode).trans he⟩

/-! ## The echo -/

/-- A byte string of whole packets is cut into packets of eight. -/
theorem packets_mem_length {k : Nat} {l : Bytes} (hl : l.length = 8 * k) :
    ∀ q ∈ packets l, q.length = 8 := by
  induction k generalizing l with
  | zero => simp [List.length_eq_zero_iff.1 hl, packets_nil]
  | succ k ih =>
    rw [packets_cons (by rintro rfl; simp at hl)]
    intro q hq
    rcases List.mem_cons.1 hq with rfl | hq
    · rw [List.length_take]; omega
    · exact ih (by rw [List.length_drop]; omega) q hq

theorem ackFrame_eq (c : Config) (op e1 e2 e3 : Word) (p : Bytes) :
    ackFrame c e1 e2 e3 p = bytes32 c.op.ack ++ (frameBytes op e1 e2 e3 p).drop 4 := by
  simp [ackFrame, frameBytes, bytes32]

/-- Settles O51: the echo is sent by SendFrame, whose packets are the whole of it. -/
theorem ackEchoLaw : Obligations.AckEchoLaw := by
  intro op e1 e2 e3 p rest s hp hsend hq hop
  have hlen : (ackFrame s.cfg e1 e2 e3 p).length = 64 := frameBytes_length _ _ _ _ _ hp
  have hpackets : (packets (ackFrame s.cfg e1 e2 e3 p)).length = 8 := by
    rw [packets_length, hlen]
  obtain ⟨staging, flash, k, hserve⟩ := serveFrame_of_answered hp hq hop
  obtain ⟨spin, hrun⟩ := startSendFrame_delivers (s := withStorage staging flash k s) hsend
    (ackFrame s.cfg e1 e2 e3 p) (.consumer (frameBytes op e1 e2 e3 p) rest)
  have hflatten := (packets_flatten _).trans (ackFrame_eq s.cfg op e1 e2 e3 p)
  rw [hpackets] at hrun
  exact ⟨_, packets (ackFrame s.cfg e1 e2 e3 p), (congrArg (andThen · _) hserve).trans hrun, rfl,
    rfl, hpackets, packets_mem_length (k := 8) hlen, hflatten⟩

end Sys2Proof.Machine
end
section
/-! SUPPORT. A frame received in packets (spec/43_hid_framer.md R240 to R246): what one packet with its
POLL does to the buffer and to EP1, and what a list of them adds up to. -/

namespace Sys2Proof.Machine

variable {s t u : State} {b : Bank} {d : Bytes} {rest : List Bank}

/-! ## Writes that follow each other -/

theorem storeBytes_append {n : Nat} (buf : Vector Byte n) (off : Nat) (bs cs : Bytes) :
    storeBytes buf off (bs ++ cs) = storeBytes (storeBytes buf off bs) (off + bs.length) cs := by
  induction bs generalizing buf off with
  | nil => rfl
  | cons b bs ih =>
    simp only [List.cons_append, storeBytes, ih, List.length_cons, Nat.add_assoc, Nat.add_comm 1]

/-- Bytes that fill the buffer are its contents. -/
theorem storeBytes_toList {n : Nat} (buf : Vector Byte n) {bs : Bytes} (h : bs.length = n) :
    (storeBytes buf 0 bs).toList = bs := by
  apply List.ext_getElem?
  intro i
  by_cases hi : i < n
  · have hstored := storeBytes_inside buf 0 bs i (by omega) (by omega)
    rw [Vector.getElem?_toList, ← hstored, Nat.zero_add]
  · rw [List.getElem?_eq_none (by simpa using hi), List.getElem?_eq_none (by omega)]

/-! ## The banks -/

/-- Neither bank is flagged and no write of a flag is outstanding. -/
def Endpoint.rxQuiet (e : Endpoint) : Prop := ∀ b, e.bankFlag b = false ∧ e.bankReq b = .none

theorem canReceive_iff (s : State) : canReceive s ↔ s.seq = .idle ∧ s.busResetPending = false
    ∧ s.ep0.rxSetup = false ∧ s.ep1.enabled = true ∧ s.ep1.rxQuiet := by
  unfold canReceive
  constructor
  · rintro ⟨hq, hb, hs, he, f0, f1, r0, r1⟩
    exact ⟨hq, hb, hs, he, fun b => by cases b; exacts [⟨f0, r0⟩, ⟨f1, r1⟩]⟩
  · rintro ⟨hq, hb, hs, he, hrx⟩
    obtain ⟨f0, r0⟩ := hrx .b0
    obtain ⟨f1, r1⟩ := hrx .b1
    exact ⟨hq, hb, hs, he, f0, f1, r0, r1⟩

@[simp] theorem fillBank_bankFlag_same (e : Endpoint) (b : Bank) (d : Bytes) :
    (e.fillBank b d).bankFlag b = true := by cases b <;> rfl
@[simp] theorem fillBank_bankCount_same (e : Endpoint) (b : Bank) (d : Bytes) :
    (e.fillBank b d).bankCount b = d.length := by cases b <;> rfl
@[simp] theorem fillBank_bankFifo_same (e : Endpoint) (b : Bank) (d : Bytes) :
    (e.fillBank b d).bankFifo b = d := by cases b <;> rfl

theorem fillBank_bankFlag_other (e : Endpoint) {b c : Bank} (h : c ≠ b) (d : Bytes) :
    (e.fillBank b d).bankFlag c = e.bankFlag c := by
  cases b <;> cases c <;> simp_all [Endpoint.fillBank, Endpoint.bankFlag]

theorem ep1Pending_of_bankFlag (h : s.ep1.bankFlag b = true) : ep1Pending s = true := by
  cases b <;> simp_all [ep1Pending, Endpoint.bankFlag]

theorem drainBanks_of_unflagged (h : ∀ b, s.ep1.bankFlag b = false) (l : List Bank) :
    drainBanks l s = .next (pollReturn true s) := by
  induction l with
  | nil => rfl
  | cons b l ih => simpa [drainBanks, h b] using ih

/-- When one bank only is flagged, that one is drained, whatever the order. -/
theorem drainBanks_of_only {l : List Bank} (hb : b ∈ l) (hf : s.ep1.bankFlag b = true)
    (hother : ∀ c ≠ b, s.ep1.bankFlag c = false) : ∃ rest, drainBanks l s = drainBank b rest s := by
  induction l with
  | nil => cases hb
  | cons c l ih =>
    by_cases hc : c = b
    · subst hc
      exact ⟨l, if_pos hf⟩
    · obtain ⟨rest, h⟩ := ih ((List.mem_cons.1 hb).resolve_left (Ne.symm hc))
      exact ⟨rest, (if_neg (by simp [hother c hc])).trans h⟩

theorem mem_bankOrder (b : Bank) (o : RxBankOrder) : b ∈ bankOrder o := by
  cases b <;> cases o <;> simp [bankOrder]

/-- A bank that holds its count of bytes, all of which fit, is moved to the buffer whole. -/
theorem drainBank_whole (hlen : (s.ep1.bankFifo b).length = s.ep1.bankCount b)
    (hfit : s.rxCnt + s.ep1.bankCount b ≤ 64) (rest : List Bank) :
    drainBank b rest s = .next { s with
      rxBuf := storeBytes s.rxBuf s.rxCnt (s.ep1.bankFifo b)
      rxCnt := s.rxCnt + s.ep1.bankCount b
      ep1 := (s.ep1.setBankFifo b []).setBankReq b .clr
      seq := .hold (.rxClr b rest)
      spin := 0 } := by
  have hno : ¬ s.rxCnt + s.ep1.bankCount b > frameLen := by rw [frameLen]; omega
  rw [drainBank, if_neg hno, appendBank, popBytes_of_length hlen]
  rfl

/-! ## One packet -/

theorem busOut_of_canReceive (h : canReceive s) (hp : s.cfg.bankFillPolicy = .any)
    (hd : d.length ≤ 8) (b : Bank) :
    move (.busOut b d) s = .next { s with ep1 := s.ep1.fillBank b d } := by
  obtain ⟨-, -, -, he, hrx⟩ := (canReceive_iff s).1 h
  obtain ⟨hf, hr⟩ := hrx b
  simp [move, busOut, busOutAllowed, bankAllowed, nextFill, fifoDepth, hp, hd, he, hf, hr]

/-- A POLL that finds an EP1 packet only goes straight to its third step. -/
theorem invoke_poll_of_pending (hq : s.seq = .idle) (hb : s.busResetPending = false)
    (hs : s.ep0.rxSetup = false) (hp : ep1Pending s = true) :
    move (.invoke [0x10]) s = drainBanks (bankOrder s.cfg.rxBankOrder) s := by
  rw [invoke_of_decode (i := .poll) rfl]
  simp [exec, execPoll, pollStep2, pollStep3, hq, hb, hs, hp]

/-- The state at HP_RX_CLR after a packet of `d` came into bank `b` and a POLL drained it. -/
def polledBank (b : Bank) (d : Bytes) (rest : List Bank) (s : State) : State :=
  { s with
    rxBuf := storeBytes s.rxBuf s.rxCnt d
    rxCnt := s.rxCnt + d.length
    ep1 := ((s.ep1.fillBank b d).setBankFifo b []).setBankReq b .clr
    seq := .hold (.rxClr b rest)
    spin := 0 }

theorem poll_of_filled (h : canReceive s) (hfit : s.rxCnt + d.length ≤ 64) (b : Bank) :
    ∃ rest, move (.invoke [0x10]) { s with ep1 := s.ep1.fillBank b d }
      = .next (polledBank b d rest s) := by
  obtain ⟨hq, hb, hs, -, hrx⟩ := (canReceive_iff s).1 h
  have hf : (s.ep1.fillBank b d).bankFlag b = true := fillBank_bankFlag_same ..
  have hother : ∀ c ≠ b, (s.ep1.fillBank b d).bankFlag c = false := fun c hc =>
    (fillBank_bankFlag_other _ hc d).trans (hrx c).1
  obtain ⟨rest, hdrain⟩ := drainBanks_of_only (s := { s with ep1 := s.ep1.fillBank b d })
    (mem_bankOrder b s.cfg.rxBankOrder) hf hother
  have hpoll := invoke_poll_of_pending (s := { s with ep1 := s.ep1.fillBank b d }) hq hb hs
    (ep1Pending_of_bankFlag hf)
  refine ⟨rest, hpoll.trans (hdrain.trans ?_)⟩
  rw [drainBank_whole (by simp) (by simpa using hfit)]
  simp [polledBank]

/-- The same state after BUS showed the clear of the bank's flag. -/
def gathered (b : Bank) (d : Bytes) (rest : List Bank) (s : State) : State :=
  showFlag (.ep1RxBank b) false (polledBank b d rest s)

theorem gathered_ep1_enabled (b : Bank) (d : Bytes) (rest : List Bank) (s : State) :
    (gathered b d rest s).ep1.enabled = s.ep1.enabled := by cases b <;> rfl

theorem gathered_rxQuiet (h : s.ep1.rxQuiet) (b : Bank) (d : Bytes) (rest : List Bank) :
    (gathered b d rest s).ep1.rxQuiet := by
  intro c
  cases b <;> cases c
  · exact ⟨rfl, rfl⟩
  · exact h .b1
  · exact h .b0
  · exact ⟨rfl, rfl⟩

/-- A packet, its POLL and the reflected clear bring the ENGINE to the 64-byte test. -/
theorem receiveRound_eq (h : canReceive s) (hp : s.cfg.bankFillPolicy = .any)
    (hd : d.length ≤ 8) (hfit : s.rxCnt + d.length ≤ 64) (b : Bank) :
    ∃ rest, runMoves (receiveRound b d) s = afterBankCleared rest (gathered b d rest s) := by
  obtain ⟨rest, hpoll⟩ := poll_of_filled h hfit b
  have hshow : move (.reflect (.ep1RxBank b)) (polledBank b d rest s)
      = .next (gathered b d rest s) := by cases b <;> rfl
  have hready : holdReady (.rxClr b rest) (gathered b d rest s) = true := by cases b <;> rfl
  have hturn : move .engine (gathered b d rest s) = afterBankCleared rest (gathered b d rest s) :=
    engineStep_ready rfl hready
  refine ⟨rest, ?_⟩
  simp only [receiveRound, runMoves, busOut_of_canReceive h hp hd, hpoll, hshow, hturn,
    andThen_next, andThen_ret]

/-! ## Packets before the frame is whole -/

/-- From `s` to `t` the bytes were gathered by `n` POLLs that returned true; beside the buffer and the
history only EP1's banks and the ENGINE's own iteration counter may differ. -/
def Received (bytes : Bytes) (n : Nat) (s t : State) : Prop :=
  ∃ spin ep1, t = { s with
    rxBuf := storeBytes s.rxBuf s.rxCnt bytes
    rxCnt := s.rxCnt + bytes.length
    history := s.history ++ List.replicate n (.pollReturn true)
    spin := spin
    ep1 := ep1 }

theorem Received.refl (s : State) : Received [] 0 s s := ⟨s.spin, s.ep1, by simp [storeBytes]⟩

theorem Received.trans {bs cs : Bytes} {m n : Nat} (h : Received bs m s t)
    (h' : Received cs n t u) : Received (bs ++ cs) (m + n) s u := by
  obtain ⟨_, _, rfl⟩ := h
  obtain ⟨spin, ep1, rfl⟩ := h'
  refine ⟨spin, ep1, ?_⟩
  simp [storeBytes_append, List.replicate_append_replicate, Nat.add_assoc]

section Fields

variable {bs : Bytes} {n : Nat} (h : Received bs n s t)
include h

theorem Received.rxBuf_eq : t.rxBuf = storeBytes s.rxBuf s.rxCnt bs := by
  obtain ⟨_, _, rfl⟩ := h; rfl

theorem Received.rxCnt_eq : t.rxCnt = s.rxCnt + bs.length := by
  obtain ⟨_, _, rfl⟩ := h; rfl

theorem Received.cfg_eq : t.cfg = s.cfg := by
  obtain ⟨_, _, rfl⟩ := h; rfl

theorem Received.history_eq :
    t.history = s.history ++ List.replicate n (.pollReturn true) := by
  obtain ⟨_, _, rfl⟩ := h; rfl

end Fields

theorem receiveRound_received (h : canReceive s) (hp : s.cfg.bankFillPolicy = .any)
    (hd : d.length ≤ 8) (hfit : s.rxCnt + d.length < 64) (b : Bank) :
    ∃ t, runMoves (receiveRound b d) s = .next t ∧ canReceive t ∧ Received d 1 s t := by
  obtain ⟨rest, hround⟩ := receiveRound_eq h hp hd hfit.le b
  obtain ⟨hq, hb, hs, he, hrx⟩ := (canReceive_iff s).1 h
  have hrx' := gathered_rxQuiet hrx b d rest
  refine ⟨pollReturn true (gathered b d rest s), ?_, ?_, 0, (gathered b d rest s).ep1, ?_⟩
  · have hno : s.rxCnt + d.length ≠ frameLen := by rw [frameLen]; omega
    rw [hround, afterBankCleared]
    exact (if_neg hno).trans (drainBanks_of_unflagged (fun c => (hrx' c).1) rest)
  · exact (canReceive_iff _).2 ⟨rfl, hb, hs, (gathered_ep1_enabled ..).trans he, hrx'⟩
  · simp [pollReturn_eq, gathered, polledBank, showFlag, hq]

theorem receiveRounds_received {ps : List (Bank × Bytes)} (h : canReceive s)
    (hp : s.cfg.bankFillPolicy = .any) (hps : ∀ p ∈ ps, p.2.length ≤ 8)
    (hfit : s.rxCnt + (packetBytes ps).length < 64) :
    ∃ t, runMoves (receiveRounds ps) s = .next t ∧ canReceive t
      ∧ Received (packetBytes ps) ps.length s t := by
  induction ps generalizing s with
  | nil => exact ⟨s, rfl, h, .refl s⟩
  | cons p ps ih =>
    obtain ⟨b, d⟩ := p
    have hbytes : packetBytes ((b, d) :: ps) = d ++ packetBytes ps := rfl
    rw [hbytes, List.length_append] at hfit
    obtain ⟨hd, hps⟩ : d.length ≤ 8 ∧ ∀ p ∈ ps, p.2.length ≤ 8 := List.forall_mem_cons.1 hps
    obtain ⟨t, hrun, ht, hrec⟩ := receiveRound_received h hp hd (by omega) b
    obtain ⟨u, hrun', hu, hrec'⟩ := ih ht (hrec.cfg_eq ▸ hp) hps (by rw [hrec.rxCnt_eq]; omega)
    refine ⟨u, ?_, hu, ?_⟩
    · rw [receiveRounds, runMoves_append, hrun]
      exact hrun'
    · rw [hbytes, List.length_cons, Nat.add_comm]
      exact hrec.trans hrec'

/-! ## The whole frame -/

theorem receiveRound_dispatches (h : canReceive s) (hp : s.cfg.bankFillPolicy = .any)
    (hd : d.length ≤ 8) (hfull : s.rxCnt + d.length = 64) (b : Bank) :
    ∃ rest, runMoves (receiveRound b d) s = .next (dispatchFrame rest (gathered b d rest s)) := by
  obtain ⟨rest, hround⟩ := receiveRound_eq h hp hd hfull.le b
  exact ⟨rest, hround.trans (if_pos hfull)⟩

/-- Settles O26: the packets before the last are gathered, by induction, and the last makes the frame
whole. -/
theorem framesAreReassembledFromPackets : Obligations.FramesAreReassembledFromPackets := by
  intro s ps b d h h0 hp hps hd hlt hfull
  obtain ⟨t, hrun, ht, hrec⟩ := receiveRounds_received h hp hps (by omega)
  obtain ⟨-, -, -, he, hrx⟩ := (canReceive_iff t).1 ht
  obtain ⟨rest, hlast⟩ := receiveRound_dispatches ht (hrec.cfg_eq ▸ hp) hd
    (by rw [hrec.rxCnt_eq]; omega) b
  have hall : runMoves (receiveRounds ps ++ receiveRound b d) s
      = .next (dispatchFrame rest (gathered b d rest t)) := by
    rw [runMoves_append, hrun]
    exact hlast
  have hframe : (gathered b d rest t).rxBuf.toList = packetBytes ps ++ d := by
    simp only [gathered, polledBank, showFlag_rxBuf, hrec.rxBuf_eq, hrec.rxCnt_eq,
      ← storeBytes_append, h0]
    exact storeBytes_toList _ (by simpa using hfull)
  have hrx' := gathered_rxQuiet hrx b d rest
  obtain ⟨hf0, hr0⟩ := hrx' .b0
  obtain ⟨hf1, hr1⟩ := hrx' .b1
  refine ⟨_, rest, hall, ?_, rfl, ?_, ?_, (gathered_ep1_enabled ..).trans he, hf0, hf1, hr0, hr1⟩
  · rw [dispatchFrame_seq, hframe]
  · rw [dispatchFrame_history, hframe]
    exact congrArg (· ++ _) hrec.history_eq
  · obtain ⟨_, _, rfl⟩ := hrec
    -- the count is 0 again, as it was in `s`
    cases s
    cases h0
    cases b <;> rfl

end Sys2Proof.Machine
end
section
/-! SUPPORT. The CRC as a function (spec/40_crc32.md R151 to R160): eight shift steps take one byte off a
word, and a feed is linear; with them the CRC statements about values, O12, O16 and O17. -/

namespace Sys2Proof.Machine

/-! ## The byte step -/

/-- Eight shift steps run the byte step on the low byte of `v` and shift the other bytes down. -/
theorem crcSteps_eight_xor (a v : Word) :
    crcSteps 8 (a ^^^ v) = crcByte a (byteOf 0 v) ^^^ (v >>> 8) := by
  generalize hlow : (byteOf 0 v).zeroExtend 32 = low
  have hbit (i : Nat) : low.getLsbD i = (decide (i < 8) && v.getLsbD i) := by
    subst hlow
    simp [byteOf]
    omega
  have hzero : ∀ i < 8, (low ^^^ v).getLsbD i = false := fun i hi => by simp [hbit, hi]
  have hshift : (low ^^^ v) >>> 8 = v >>> 8 := by
    apply BitVec.eq_of_getLsbD_eq
    intro i _
    simp [hbit]
  calc crcSteps 8 (a ^^^ v)
      = crcSteps 8 (a ^^^ low ^^^ (low ^^^ v)) := by
        rw [← BitVec.xor_assoc (a ^^^ low), BitVec.xor_assoc a, BitVec.xor_self, BitVec.xor_zero]
    _ = crcByte a (byteOf 0 v) ^^^ (v >>> 8) := by
        rw [crcSteps_xor, crcSteps_of_low_zero 8 _ hzero, hshift, crcByte, hlow]

/-- The byte step is a look-up at the low byte, in the table of R159. -/
theorem crcByte_eq_table (acc : Word) (b : Byte) :
    crcByte acc b = crcByte 0 ((acc ^^^ b.zeroExtend 32).extractLsb' 0 8) ^^^ (acc >>> 8) := by
  have hshift : (acc ^^^ b.zeroExtend 32) >>> 8 = acc >>> 8 := by
    apply BitVec.eq_of_getLsbD_eq
    intro i _
    simp
  rw [← hshift, crcByte, ← BitVec.zero_xor (x := acc ^^^ _), crcSteps_eight_xor]
  simp [byteOf]

theorem crcByte_xor (acc d : Word) (b : Byte) :
    crcByte (acc ^^^ d) b = crcByte acc b ^^^ crcByte d 0 := by
  have h0 : (0 : Byte).zeroExtend 32 = 0#32 := rfl
  rw [crcByte, crcByte, crcByte, h0, BitVec.xor_zero, ← crcSteps_xor, BitVec.xor_assoc,
    BitVec.xor_comm d, BitVec.xor_assoc]

theorem crcByte_zero_zero : crcByte 0 0 = 0 := crcSteps_zero 8

/-! ## The feed -/

theorem crcFeed_append (acc : Word) (s t : Bytes) :
    crcFeed acc (s ++ t) = crcFeed (crcFeed acc s) t := by
  induction s generalizing acc with
  | nil => rfl
  | cons b s ih => exact ih (crcByte acc b)

theorem crcFeed_zeros (n : Nat) : crcFeed 0 (List.replicate n 0) = 0 := by
  induction n with
  | zero => rfl
  | succ n ih => rw [List.replicate_succ, crcFeed_cons, crcByte_zero_zero, ih]

theorem crcFeed_xor (acc d : Word) (s : Bytes) :
    crcFeed (acc ^^^ d) s = crcFeed acc s ^^^ crcFeed d (List.replicate s.length 0) := by
  induction s generalizing acc d with
  | nil => rfl
  | cons b s ih => rw [crcFeed_cons, crcByte_xor, ih]; rfl

/-- Settles O16: the table form, and the laws of the feed by induction over the bytes. -/
theorem crcTableFormAndFeedLaws : Obligations.CrcTableFormAndFeedLaws :=
  ⟨crcByte_eq_table, crcFeed_append, crcFeed_zeros, crcFeed_xor⟩

/-! ## The residue -/

theorem byteOf_ushiftRight (k : Nat) (v : Word) : byteOf k (v >>> 8) = byteOf (k + 1) v := by
  apply BitVec.eq_of_getLsbD_eq
  intro i hi
  simp only [byteOf, BitVec.getLsbD_extractLsb', BitVec.getLsbD_ushiftRight]
  rw [show 8 + (8 * k + i) = 8 * (k + 1) + i by omega]

/-- Feeding the four bytes of a word is 32 shift steps. -/
theorem crcFeed_bytes32 (acc v : Word) : crcFeed acc (bytes32 v) = crcSteps 32 (acc ^^^ v) := by
  have hshifted : v >>> 8 >>> 8 >>> 8 >>> 8 = 0#32 := by
    simp only [← BitVec.shiftRight_add, Nat.reduceAdd]
    exact BitVec.ushiftRight_eq_zero (Nat.le_refl 32)
  calc crcFeed acc (bytes32 v)
      = crcSteps 8 (crcSteps 8 (crcSteps 8 (crcSteps 8 (acc ^^^ v)))) := by
        simp only [crcSteps_eight_xor, byteOf_ushiftRight, hshifted, BitVec.xor_zero]
        rfl
    _ = crcSteps 32 (acc ^^^ v) := by simp only [← crcSteps_add, Nat.reduceAdd]

/-- The residue: what 32 shift steps make of 32 ones. -/
theorem crcSteps_allOnes : crcSteps 32 (BitVec.allOnes 32) = 0xDEBB20E3#32 := by decide +kernel

/-- Settles O17: a word xored with its complement is all ones, whatever the message was. -/
theorem crcResidueIsConstant : Obligations.CrcResidueIsConstant := by
  intro s
  have hones (a : Word) : a ^^^ ~~~a = BitVec.allOnes 32 := by
    rw [← BitVec.xor_allOnes, ← BitVec.xor_assoc, BitVec.xor_self, BitVec.zero_xor]
  rw [crcFeed_append, crcFeed_bytes32, crc32, hones, crcSteps_allOnes]

/-! ## The recurrence and its check values -/

theorem crc32_check :
    crc32 [0x31, 0x32, 0x33, 0x34, 0x35, 0x36, 0x37, 0x38, 0x39] = 0xCBF43926#32 := by
  decide +kernel

theorem crc32_nil : crc32 [] = 0x00000000#32 := by decide

/-- Settles O12: the equations of the two definitions, and the two check values. -/
theorem crcFunctionIsTheReflectedRecurrence : Obligations.CrcFunctionIsTheReflectedRecurrence :=
  ⟨fun _ _ => rfl, crcFeed_nil, crcFeed_cons, crc32_check, crc32_nil⟩

end Sys2Proof.Machine
end
section
/-! SUPPORT. The CRC unit's operations (spec/40_crc32.md R153 to R157): each turns the accumulator into a
new one and into results for the history, and does nothing else. -/

namespace Sys2Proof.Machine

/-! ## The check message of R152 and R154 -/

theorem crcFeed_checkHead : crcFeed crcSeedValue [0x31, 0x32, 0x33, 0x34] = 0x641C1F5C#32 := by
  decide +kernel

/-- The accumulator of the first four bytes, loaded again, goes on to the same check value. -/
theorem crcFeed_checkTail :
    ~~~ crcFeed 0x641C1F5C#32 [0x35, 0x36, 0x37, 0x38, 0x39] = 0xCBF43926#32 := by
  rw [← crcFeed_checkHead, ← crcFeed_append]
  exact crc32_check

/-! ## The operations -/

theorem load_feed_raw_result (s : State) (acc : Word) (bytes : Bytes) :
    ∃ t, andThen (exec (.crcLoad acc) s) (fun s =>
        andThen (exec (.crcFeed bytes) s) (exec .crcRaw)) = .next t
      ∧ t.history = s.history ++ [.crcResult (crcFeed acc bytes)] := ⟨_, rfl, rfl⟩

/-- Started by CRC_SEED, which loads the seed, the result is `crc32` of the bytes (R158). -/
theorem load_feed_final_result (s : State) (acc : Word) (bytes : Bytes) :
    ∃ t, andThen (exec (.crcLoad acc) s) (fun s =>
        andThen (exec (.crcFeed bytes) s) (exec .crcFinal)) = .next t
      ∧ t.history = s.history ++ [.crcResult (~~~ crcFeed acc bytes)] := ⟨_, rfl, rfl⟩

/-- Settles O13: the example goes on from the middle of the check message. -/
theorem crcSeedAndLoadSetTheAccumulator : Obligations.CrcSeedAndLoadSetTheAccumulator := by
  refine fun c s v => ⟨rfl, rfl, rfl, rfl, rfl, rfl, ?_⟩
  rw [← crcFeed_checkTail]
  exact load_feed_final_result s _ _

/-- Settles O14: two feeds are one by the law of composition. -/
theorem crcFeedUpdatesTheAccumulator : Obligations.CrcFeedUpdatesTheAccumulator := by
  refine fun c s bytes more => ⟨rfl, rfl, rfl, ?_, by decide⟩
  simp only [exec, execCrcFeed, andThen_next, crcFeed_append]

/-- Settles O15: the examples are the check message's first four bytes, no bytes, and all of it. -/
theorem crcRawAndFinalReturnTheAccumulator : Obligations.CrcRawAndFinalReturnTheAccumulator := by
  refine fun c s => ⟨rfl, rfl, rfl, rfl, BitVec.xor_allOnes.symm, ?_, ?_, ?_⟩
  · rw [← crcFeed_checkHead]
    exact load_feed_raw_result s crcSeedValue _
  · rw [← crc32_nil]
    exact load_feed_final_result s crcSeedValue []
  · rw [← crc32_check]
    exact load_feed_final_result s crcSeedValue _

end Sys2Proof.Machine
end
section
/-! SUPPORT. The CRC unit shares no state with the rest (spec/40_crc32.md R150): its operations are
functions of the accumulator alone, and every other step but a restart carries the accumulator along. -/

namespace Sys2Proof.Machine

/-! ## The CRC unit reads and writes nothing else -/

/-- An operation of the CRC unit: the new accumulator and the results depend on the old accumulator
only, and nothing else is written. -/
theorem exec_crc_eq {i : Instr}
    (hi : i ∈ [Instr.crcSeed, .crcRaw, .crcFinal] ∨ (∃ v, i = .crcLoad v) ∨ (∃ b, i = .crcFeed b)) :
    ∃ (acc : Word → Word) (results : Word → List Event), ∀ s, exec i s = .next { s with
      crcAcc := acc s.crcAcc, history := s.history ++ results s.crcAcc } := by
  simp only [List.mem_cons, List.not_mem_nil, or_false] at hi
  rcases hi with (rfl | rfl | rfl) | ⟨v, rfl⟩ | ⟨b, rfl⟩
  · exact ⟨fun _ => crcSeedValue, fun _ => [], fun s => by simp [exec, execCrcSeed]⟩
  · exact ⟨id, fun a => [.crcResult a], fun _ => rfl⟩
  · exact ⟨id, fun a => [.crcResult (~~~ a)], fun _ => rfl⟩
  · exact ⟨fun _ => v, fun _ => [], fun s => by simp [exec, execCrcLoad]⟩
  · exact ⟨fun a => crcFeed a b, fun _ => [], fun s => by simp [exec, execCrcFeed]⟩

/-! ## Meanings that carry the accumulator along -/

/-- The state with another accumulator. -/
def State.withCrcAcc (v : Word) (s : State) : State := { s with crcAcc := v }

@[simp] theorem State.withCrcAcc_seq (v : Word) (s : State) : (s.withCrcAcc v).seq = s.seq := rfl
@[simp] theorem State.withCrcAcc_cfg (v : Word) (s : State) : (s.withCrcAcc v).cfg = s.cfg := rfl
@[simp] theorem State.withCrcAcc_setup (v : Word) (s : State) :
    (s.withCrcAcc v).setup = s.setup := rfl
@[simp] theorem State.withCrcAcc_ep0 (v : Word) (s : State) : (s.withCrcAcc v).ep0 = s.ep0 := rfl
@[simp] theorem State.withCrcAcc_spin (v : Word) (s : State) : (s.withCrcAcc v).spin = s.spin := rfl
@[simp] theorem State.withCrcAcc_freeCount (v : Word) (s : State) :
    (s.withCrcAcc v).freeCount = s.freeCount := rfl

/-- A meaning neither reads nor writes the accumulator: another one before is the same other one
after. -/
def CrcFree (f : State → Result) : Prop :=
  ∀ (v : Word) (s : State), f (s.withCrcAcc v) = mapNext (State.withCrcAcc v) (f s)

section Rules

variable {f g : State → Result} {k : State → Bytes → List Bank → Result}

theorem CrcFree.next {h : State → State} (hh : ∀ v s, h (s.withCrcAcc v) = (h s).withCrcAcc v) :
    CrcFree fun s => .next (h s) :=
  fun v s => congrArg Host.Outcome.next (hh v s)

theorem CrcFree.andThen (hf : CrcFree f) (hg : CrcFree g) : CrcFree fun s => andThen (f s) g := by
  intro v s
  simp only [hf v s]
  cases hr : f s with
  | next t => exact hg v t
  | fault | refused => rfl

theorem CrcFree.ite {c : State → Prop} {dec : ∀ s, Decidable (c s)}
    (hc : ∀ v s, c (s.withCrcAcc v) = c s) (hf : CrcFree f) (hg : CrcFree g) :
    CrcFree fun s => if c s then f s else g s := by
  intro v s
  simp only [hc v s]
  split
  · exact hf v s
  · exact hg v s

theorem CrcFree.atDispatch (hk : ∀ frame rest, CrcFree fun s => k s frame rest) :
    CrcFree fun s => atDispatch s (k s) := by
  intro v s
  by_cases hq : ∃ frame rest, s.seq = .hold (.dispatch frame rest)
  · obtain ⟨frame, rest, hq⟩ := hq
    simp only [Machine.atDispatch, State.withCrcAcc_seq, hq]
    exact hk frame rest v s
  · have hd : ∀ frame rest, s.seq ≠ .hold (.dispatch frame rest) := by simpa using hq
    simp only [atDispatch_refused hd, atDispatch_refused (s := s.withCrcAcc v) hd]
    rfl

end Rules

/-! ## POLL -/

theorem drainBank_crcFree (b : Bank) (rest : List Bank) : CrcFree (drainBank b rest) :=
  .ite (fun _ _ => rfl) (fun _ _ => rfl) (fun _ _ => rfl)

theorem drainBanks_crcFree : ∀ l, CrcFree (drainBanks l)
  | [] => fun _ _ => rfl
  | b :: rest => .ite (fun _ _ => rfl) (drainBank_crcFree b rest) (drainBanks_crcFree rest)

theorem pollStep3_crcFree (serviced : Bool) : CrcFree (pollStep3 serviced) :=
  .ite (fun _ _ => rfl) (fun v s => drainBanks_crcFree (bankOrder s.cfg.rxBankOrder) v s)
    (fun _ _ => rfl)

theorem requestDone_crcFree : CrcFree requestDone := pollStep3_crcFree true

theorem latchSetup_withCrcAcc (v : Word) (s : State) :
    latchSetup (s.withCrcAcc v) = (latchSetup s).withCrcAcc v := by
  simp only [latchSetup, State.withCrcAcc_ep0, State.withCrcAcc_freeCount]
  split <;> rfl

theorem setupRequestHandler_withCrcAcc (v : Word) (s : State) :
    setupRequestHandler (s.withCrcAcc v) = (setupRequestHandler s).withCrcAcc v := by
  simp only [setupRequestHandler, latchSetup_withCrcAcc, State.withCrcAcc_setup]
  split <;> rfl

theorem pollStep2_crcFree (serviced : Bool) : CrcFree (pollStep2 serviced) :=
  .ite (fun _ _ => rfl) (.next setupRequestHandler_withCrcAcc) (pollStep3_crcFree serviced)

theorem execPoll_crcFree : CrcFree execPoll := by
  have hidle : CrcFree fun s =>
      if s.busResetPending then pollStep2 true (busResetService s) else pollStep2 false s :=
    .ite (fun _ _ => rfl) (fun v s => pollStep2_crcFree true v (busResetService s))
      (pollStep2_crcFree false)
  intro v s
  simp only [execPoll, State.withCrcAcc_seq]
  cases s.seq with
  | idle => exact hidle v s
  | hold | halted => rfl

/-! ## Transfers -/

theorem loadAndTrigger_crcFree (n : TxEp) (chunk : Bytes) : CrcFree (loadAndTrigger n chunk) := by
  cases n <;> exact .ite (fun _ _ => rfl) (fun _ _ => rfl) (fun _ _ => rfl)

/-- A chunk is read from the parameters, loaded, and the ENGINE waits. -/
theorem queueChunk_crcFree (n : TxEp) (t : Tx) (h : Hold) : CrcFree fun s =>
    match nextChunk s.cfg t with
    | none => .fault .memReadRange
    | some chunk => andThen (loadAndTrigger n chunk s) fun s => .next (goto h s) := by
  intro v s
  simp only [State.withCrcAcc_cfg]
  cases nextChunk s.cfg t with
  | none => rfl
  | some chunk => exact (loadAndTrigger_crcFree n chunk).andThen (fun _ _ => rfl) v s

theorem sendChunk_crcFree (t : Tx) : CrcFree (sendChunk t) :=
  .ite (fun _ _ => rfl) requestDone_crcFree (queueChunk_crcFree .ep0 t (.ctlTx t))

theorem sendControl_crcFree (src : Src) (n : Nat) : CrcFree (sendControl src n) :=
  sendChunk_crcFree _

theorem frameReturn_withCrcAcc (caller : Caller) (v : Word) (s : State) :
    frameReturn caller (s.withCrcAcc v) = (frameReturn caller s).withCrcAcc v := by
  cases caller <;> rfl

theorem sendFrameLoop_crcFree (t : Tx) (caller : Caller) : CrcFree (sendFrameLoop t caller) :=
  .ite (fun _ _ => rfl) (.next (frameReturn_withCrcAcc caller))
    (queueChunk_crcFree .ep2 t (.frmTx t caller))

theorem execSendFrame_crcFree (bytes : Bytes) : CrcFree (execSendFrame bytes) := by
  intro v s
  simp only [execSendFrame, State.withCrcAcc_seq]
  split
  · exact sendFrameLoop_crcFree _ _ v s
  · exact sendFrameLoop_crcFree _ _ v s
  · rfl

/-! ## Requests -/

theorem applyConfiguration_withCrcAcc (value : Byte) (v : Word) (s : State) :
    applyConfiguration value (s.withCrcAcc v) = (applyConfiguration value s).withCrcAcc v := by
  unfold applyConfiguration
  split <;> rfl

theorem exec_request_crcFree {i : Instr} (hi : i.format = .setup) : CrcFree (exec i) := by
  cases i with
  | crcSeed | crcLoad | crcFeed | crcRaw | crcFinal | poll | sendFrame => cases hi
  | frameDeviceInfo | frameSetupWrite | frameFinishWrite | frameHardwareReset | frameAck => cases hi
  | getDescriptorUnknownType | getStatusOther | clearFeature | setFeature | syncFrame
  | setDescriptor | unknownRequest => exact requestDone_crcFree
  | getDescriptorDevice | getDescriptorConfiguration | getDescriptorHidReport =>
    exact fun v s => sendControl_crcFree _ _ v s
  | getDescriptorString =>
    intro v s
    simp only [exec, execGetDescriptorString, State.withCrcAcc_cfg]
    split
    · exact requestDone_crcFree v s
    · rfl
    · exact sendControl_crcFree _ _ v s
  | getStatusDevice | getStatusInterface | getStatusEndpoint =>
    exact sendControl_crcFree (.bytes [0, 0]) 2
  | getInterface => exact sendControl_crcFree (.bytes [0]) 1
  | getConfiguration => exact fun v s => sendControl_crcFree (.bytes [s.curCfg]) 1 v s
  | setInterface | setAddress => exact fun _ _ => rfl
  | setConfiguration _ value =>
    intro v s
    rw [exec, execSetConfiguration, applyConfiguration_withCrcAcc]
    rfl

/-! ## Frames -/

theorem replyAck_crcFree (e1 e2 e3 : Word) (p : Bytes) : CrcFree (replyAck e1 e2 e3 p) :=
  .atDispatch fun _ _ v s => sendFrameLoop_crcFree _ _ v s

theorem consumerHalt_crcFree (r : Reason) : CrcFree (consumerHalt r) := by
  cases r <;> exact .atDispatch fun _ _ _ _ => rfl

theorem stagePayload_withCrcAcc (offset : Word) (p : Bytes) (v : Word) (s : State) :
    stagePayload offset p (s.withCrcAcc v) = (stagePayload offset p s).withCrcAcc v := by
  unfold stagePayload
  split <;> rfl

theorem exec_frame_crcFree {i : Instr} (hi : i.format = .frame) : CrcFree (exec i) := by
  cases i with
  | crcSeed | crcLoad | crcFeed | crcRaw | crcFinal | poll | sendFrame => cases hi
  | frameDeviceInfo e1 e2 e3 p | frameHardwareReset e1 e2 e3 p => exact replyAck_crcFree e1 e2 e3 p
  | frameSetupWrite e1 e2 e3 p =>
    intro v s
    rw [exec, execFrameSetupWrite, stagePayload_withCrcAcc]
    exact replyAck_crcFree e1 e2 e3 p v (stagePayload e1 p s)
  | frameFinishWrite e1 e2 e3 p => exact fun v s => replyAck_crcFree e1 e2 e3 p v (finishPage e1 p s)
  | frameAck => exact consumerHalt_crcFree .unknownOpcode
  | _ => cases hi

theorem serveFrame_crcFree : CrcFree serveFrame := by
  refine .atDispatch fun frame _ v s => ?_
  simp only [State.withCrcAcc_cfg]
  split
  · next i hd => exact exec_frame_crcFree (decode_frame_format hd) v s
  · exact consumerHalt_crcFree _ v s
  · exact consumerHalt_crcFree _ v s

/-! ## The ENGINE's turn -/

theorem resume_crcFree (h : Hold) : CrcFree (resume h) := by
  cases h with
  | dir | zlpTx | dispatch | frmTx => exact fun _ _ => rfl
  | setupClr => exact fun v s => exec_request_crcFree (decodeSetup_format s.cfg s.setup) v s
  | ctlTx => exact .ite (fun _ _ => rfl) requestDone_crcFree (fun _ _ => rfl)
  | ctlAckClr t => exact .ite (fun _ _ => rfl) requestDone_crcFree (sendChunk_crcFree t.advance)
  | zlpAckClr after =>
    cases after with
    | nothing => exact requestDone_crcFree
    | setAddress a => exact fun v s => requestDone_crcFree v (programAddress a s)
  | rxClr _ rest => exact .ite (fun _ _ => rfl) (fun _ _ => rfl) (drainBanks_crcFree rest)
  | frmAckClr t c => exact sendFrameLoop_crcFree t.advance c

theorem failedTest_withCrcAcc (h : Hold) (v : Word) (s : State) :
    failedTest h (s.withCrcAcc v) = (failedTest h s).withCrcAcc v := by
  cases hcap : s.cfg.spinCap with
  | none => simp only [failedTest, State.withCrcAcc_cfg, hcap]
  | some k =>
    simp only [failedTest, State.withCrcAcc_cfg, hcap, apply_ite (State.withCrcAcc v)]
    rfl

theorem engineStep_crcFree : CrcFree engineStep := by
  have hhold (h : Hold) : CrcFree fun s =>
      if holdReady h s then resume h s else .next (failedTest h s) :=
    .ite (fun v s => by rw [holdReady_of_endpoints (s := s) (t := s.withCrcAcc v) rfl rfl rfl])
      (resume_crcFree h) (.next (failedTest_withCrcAcc h))
  intro v s
  simp only [engineStep, State.withCrcAcc_seq]
  cases s.seq with
  | idle | halted => rfl
  | hold h => exact hhold h v s

/-! ## BUS -/

theorem busInAck_crcFree (n : TxEp) : CrcFree (busInAck n) := by
  cases n <;> exact .ite (fun _ _ => rfl) (fun _ _ => rfl) (fun _ _ => rfl)

theorem showFlag_withCrcAcc (f : Flag) (b : Bool) (v : Word) (s : State) :
    showFlag f b (s.withCrcAcc v) = (showFlag f b s).withCrcAcc v := by
  cases f <;> rfl

theorem reflect_crcFree (f : Flag) : CrcFree (reflect f) := by
  intro v s
  have hreq : flagReq f (s.withCrcAcc v) = flagReq f s := by cases f <;> rfl
  simp only [reflect, hreq]
  cases flagReq f s with
  | none => rfl
  | set | clr => exact CrcFree.next (showFlag_withCrcAcc f _) v s

/-! ## Invocations -/

/-- A call with an `op_sel` past the CRC unit's is a POLL or a SEND_FRAME (spec/30_encoding.md R127). -/
theorem decode_opsel_of_not_crc {c : Config} {op : Byte} {operands : Bytes} {i : Instr}
    (hop : ¬ op.toNat ≤ 4) (h : decode c .opsel (op :: operands) = .ok i) :
    i = .poll ∨ ∃ b, i = .sendFrame b := by
  obtain ⟨-, -, hcode⟩ := encodeOfDecodeIsTheWord c .opsel _ i h
  rcases decode_opsel_cases h with ⟨rfl, -⟩ | ⟨rfl, -⟩ | ⟨rfl, -⟩ | ⟨rfl, -⟩ | ⟨v, rfl⟩
    | ⟨b, rfl⟩ | ⟨b, rfl⟩
  · exact .inl rfl
  -- the CRC unit's own codes are 0 to 4
  iterate 5
    · cases hcode
      exact absurd (by decide) hop
  · exact .inr ⟨b, rfl⟩

theorem invoke_crcFree {op : Byte} {operands : Bytes} (hop : ¬ op.toNat ≤ 4) :
    CrcFree (invoke (op :: operands)) := by
  intro v s
  simp only [invoke, State.withCrcAcc_cfg]
  split
  · next i hd =>
    rcases decode_opsel_of_not_crc hop hd with rfl | ⟨b, rfl⟩
    · exact execPoll_crcFree v s
    · exact execSendFrame_crcFree b v s
  · rfl

/-! ## Every step but the CRC unit's and a restart -/

theorem move_crcFree {m : Move} (hr : m ≠ .restart)
    (hc : ¬ ∃ op operands, m = .invoke (op :: operands) ∧ op.toNat ≤ 4) : CrcFree (move m) := by
  cases m with
  | engine => exact engineStep_crcFree
  | invoke call =>
    cases call with
    | nil => exact fun _ _ => rfl
    | cons op operands => exact invoke_crcFree fun hop => hc ⟨op, operands, rfl, hop⟩
  | serveFrame => exact serveFrame_crcFree
  | consumerReturn => exact .atDispatch fun _ rest => drainBanks_crcFree rest
  | consumerHalt r => exact consumerHalt_crcFree r
  | busReset => exact fun _ _ => rfl
  | busSetup | busOut => exact .ite (fun _ _ => rfl) (fun _ _ => rfl) (fun _ _ => rfl)
  | busInAck n => exact busInAck_crcFree n
  | reflect f => exact reflect_crcFree f
  | restart => exact absurd rfl hr

theorem step_withCrcAcc {s : State} (v : Word) (hc : ¬ crcCallNext s) (hr : ¬ restartNext s) :
    step (s.withCrcAcc v) = mapNext (State.withCrcAcc v) (step s) := by
  cases hw : s.cfg.wf with
  | false => rw [step_of_not_wf hw, step_of_not_wf (s := s.withCrcAcc v) hw]; rfl
  | true =>
    rw [step_of_wf hw, step_of_wf (s := s.withCrcAcc v) hw]
    exact move_crcFree hr hc v { s with script := s.script.tail }

/-- Settles O18: the unit's operations are functions of the accumulator, and all other meanings carry it
along. -/
theorem crcUnitSharesNoState : Obligations.CrcUnitSharesNoState := by
  refine ⟨fun s u i call rest rest' hs hu hacc hss hus hd hi => ?_,
    fun s v hc hr => step_withCrcAcc v hc hr⟩
  obtain ⟨acc, results, he⟩ := exec_crc_eq hi
  refine ⟨acc s.crcAcc, results s.crcAcc, ?_, ?_⟩
  · rw [step_of_script hs hss, invoke_of_decode (s := { s with script := rest }) hd, he]
  · rw [step_of_script hu hus, invoke_of_decode (s := { u with script := rest' }) hd, he, hacc]

end Sys2Proof.Machine
end
section
/-! SUPPORT. The data stage of a control transfer (spec/41_usb_poll_control.md R190, R191): what one
acknowledged packet does to SendControl's loop, what the loop adds up to, and how a new SETUP ends
it. -/

namespace Sys2Proof.Machine

variable {s : State} {x : Tx}

/-! ## What is left to send (spec/20_memory.md R86) -/

/-- The unsent bytes of a transfer. -/
def unsent (c : Config) (x : Tx) : Bytes := ((srcBytes c x.src).drop x.off).take x.rem

theorem unsent_length {c : Config} (hin : txInRange c x) : (unsent c x).length = x.rem := by
  unfold txInRange at hin
  rw [unsent, List.length_take, List.length_drop]
  omega

theorem take_chunkLen_eq_unsent (c : Config) (x : Tx) :
    ((srcBytes c x.src).drop x.off).take (chunkLen x) = (unsent c x).take 8 := by
  rw [unsent, List.take_take, chunkLen, fifoDepth, Nat.min_comm]

theorem chunkLen_of_full (h : 8 ≤ x.rem) : chunkLen x = 8 := Nat.min_eq_right h

theorem unsent_advance (c : Config) (h : 8 ≤ x.rem) :
    unsent c x.advance = (unsent c x).drop 8 := by
  simp only [unsent, Tx.advance_src, Tx.advance_off, Tx.advance_rem, chunkLen_of_full h,
    List.drop_take, List.drop_drop]

/-! ## One packet -/

/-- One round of the loop: the next packet of at most eight bytes reaches the host, and the ENGINE
comes to the test whether bytes are left. -/
theorem sendChunk_round (h : canReply s) (hin : txInRange s.cfg x) :
    andThen (sendChunk x s) (runMoves (ackRound .ep0)) = afterCtlAckClr x
      { delivered .ep0 [(unsent s.cfg x).take 8] s with seq := .hold (.ctlAckClr x) } := by
  have ⟨_, hsetup, hfifo, htrig, _, _⟩ := h
  rw [sendChunk_eq hsetup ⟨hfifo, htrig⟩ hin, andThen_next, take_chunkLen_eq_unsent]
  exact ackRound_ctl h _ x

/-! ## The loop -/

/-- With one round per packet the host receives the rest of the transfer, and POLL goes on to its
third step. Each round but the last leaves more to send; the last, of at most eight bytes and perhaps
of none, is Done. -/
theorem sendChunk_delivers (h : canReply s) (hin : txInRange s.cfg x) :
    andThen (sendChunk x s)
        (runMoves (ackRounds .ep0 (dataStagePackets (unsent s.cfg x)).length))
      = pollStep3 true (delivered .ep0 (dataStagePackets (unsent s.cfg x)) s) := by
  induction hn : x.rem using Nat.strong_induction_on generalizing x s with
  | h n ih =>
    have hlen := unsent_length hin
    have hround := sendChunk_round h hin
    by_cases hlast : x.rem ≤ 8
    · have hle : (unsent s.cfg x).length ≤ 8 := hlen.trans_le hlast
      have hdone : x.advance.rem = 0 := by rw [Tx.advance_rem, chunkLen, fifoDepth]; omega
      rw [dataStagePackets_last hle, List.length_singleton, runMoves_ackRounds_succ, hround,
        afterCtlAckClr, if_pos hdone, List.take_of_length_le hle]
      exact (andThen_ret _).trans (pollStep3_seq ..)
    · have hmore : 8 < x.rem := Nat.not_le.1 hlast
      have hrem : x.advance.rem = x.rem - 8 := by rw [Tx.advance_rem, chunkLen_of_full hmore.le]
      have hleft : x.advance.rem ≠ 0 := by omega
      have hrun := ih x.advance.rem (by omega) (x := x.advance)
        (s := { delivered .ep0 [(unsent s.cfg x).take 8] s with seq := .hold (.ctlAckClr x) }) h
        (txInRange_advance hin) rfl
      simp only [delivered, unsent_advance _ hmore.le] at hrun
      rw [dataStagePackets_split (hlen.symm ▸ hmore), List.length_cons, runMoves_ackRounds_succ,
        hround, afterCtlAckClr, if_neg hleft]
      exact hrun.trans ((pollStep3_seq ..).trans (congrArg _ (delivered_delivered ..)))

/-! ## The packets (spec/20_memory.md R86, spec/70_reset_and_hazards.md R371) -/

theorem dataStagePackets_length (l : Bytes) :
    (dataStagePackets l).length = max 1 ((l.length + 7) / 8) := by
  unfold dataStagePackets
  split
  · next h => simp [h]
  · next h =>
    have hpos := List.length_pos_iff.2 h
    rw [packets_length]
    omega

theorem dataStagePackets_flatten (l : Bytes) : (dataStagePackets l).flatten = l := by
  unfold dataStagePackets
  split
  · next h => rw [h]; rfl
  · exact packets_flatten l

theorem dataStagePackets_length_le (l : Bytes) : ∀ p ∈ dataStagePackets l, p.length ≤ 8 := by
  unfold dataStagePackets
  split
  · simp
  · exact fun p hp => (packets_mem l p hp).2

/-- Settles O34: SendControl is its loop from offset 0, and its packets are those of the first `n`
bytes. -/
theorem sendControlDeliversEveryByte : Obligations.SendControlDeliversEveryByte := by
  intro src n s h hn
  have hlen : ((srcBytes s.cfg src).take n).length = n := by simpa using hn
  have hpackets := dataStagePackets_length ((srcBytes s.cfg src).take n)
  rw [hlen] at hpackets
  have hrun := sendChunk_delivers (x := ⟨src, 0, n⟩) h (by simpa [txInRange] using hn)
  exact ⟨hpackets ▸ hrun, hpackets, dataStagePackets_flatten _, dataStagePackets_length_le _⟩

/-! ## A new SETUP (R190, R191) -/

theorem afterCtlTx_abort (hs : s.ep0.rxSetup = true) : afterCtlTx x s = requestDone s := if_pos hs

/-- A flagged SETUP ends the data stage at both ways out of the test for bytes left. -/
theorem afterCtlAckClr_abort (hs : s.ep0.rxSetup = true) :
    afterCtlAckClr x s = requestDone s := by
  unfold afterCtlAckClr
  split
  · rfl
  · exact sendChunk_abort hs

theorem requestDone_quiet (hp : ep1Pending s = false) : requestDone s = .next (polledTrue s) :=
  pollStep3_quiet hp true

/-- Settles O35: the two tests for a SETUP end the request, and with no SETUP HP_CTL_TX waits for
the acknowledgment. -/
theorem newSetupAbortsTheDataStage : Obligations.NewSetupAbortsTheDataStage := by
  refine ⟨fun s x hs => ⟨sendChunk_abort hs, fun hq => ?_, fun hq hack => ?_, requestDone_quiet⟩,
    fun s x hq hs => ⟨fun hack => ?_, fun hack hcap => ?_⟩⟩
  · exact (engineStep_ready hq (by simp [holdReady, hs])).trans (afterCtlTx_abort hs)
  · exact (engineStep_ready hq (by simp [holdReady, hack])).trans (afterCtlAckClr_abort hs)
  · exact (engineStep_ready hq (by simp [holdReady, hack])).trans (if_neg (by simp [hs]))
  · exact move_engine_uncapped hq (by simp [holdReady, hs, hack]) hcap

end Sys2Proof.Machine
end
section
/-! SUPPORT. The first stretch of a POLL (spec/41_usb_poll_control.md R180 to R186): its three tests
in priority order, and what each finds. -/

namespace Sys2Proof.Machine

variable {s : State}

/-! ## The three tests -/

section Idle

variable (hq : s.seq = .idle)
include hq

theorem exec_poll_of_busReset (hb : s.busResetPending = true) :
    exec .poll s = pollStep2 true (busResetService s) := by
  simp [exec, execPoll, hq, hb]

theorem exec_poll_of_noBusReset (hb : s.busResetPending = false) :
    exec .poll s = pollStep2 false s := by
  simp [exec, execPoll, hq, hb]

theorem pollReturn_of_idle (v : Bool) :
    pollReturn v s = { s with history := s.history ++ [.pollReturn v] } := by
  rw [pollReturn_eq, ← hq]

end Idle

theorem pollStep2_of_setup (hs : s.ep0.rxSetup = true) (v : Bool) :
    pollStep2 v s = .next (setupRequestHandler s) := if_pos hs

theorem pollStep2_of_noSetup (hs : s.ep0.rxSetup = false) (v : Bool) :
    pollStep2 v s = pollStep3 v s := if_neg (by simp [hs])

theorem exec_poll_of_noReset_noSetup (hq : s.seq = .idle) (hb : s.busResetPending = false)
    (hs : s.ep0.rxSetup = false) : exec .poll s = pollStep3 false s :=
  (exec_poll_of_noBusReset hq hb).trans (pollStep2_of_noSetup hs false)

theorem pollStep3_of_pending (hp : ep1Pending s = true) (v : Bool) :
    pollStep3 v s = drainBanks (bankOrder s.cfg.rxBankOrder) s := if_pos hp

/-! ## A bus reset (R182, R183) -/

/-- Settles O19: the service withdraws every other pending event, so the POLL returns at once. -/
theorem pollServicesBusReset : Obligations.PollServicesBusReset := by
  intro s hq hb
  have hidle : (busResetService s).seq = .idle := hq
  rw [exec_poll_of_busReset hq hb, pollStep2_of_noSetup rfl, pollStep3_quiet rfl,
    pollReturn_of_idle hidle]
  rfl

/-! ## A SETUP (R184 to R186) -/

/-- A SETUP of eight bytes is latched whole: the FIFO is emptied and no free value is drawn. -/
theorem latchSetup_of_fifo {p0 p1 p2 p3 p4 p5 p6 p7 : Byte}
    (hf : s.ep0.rxFifo0 = [p0, p1, p2, p3, p4, p5, p6, p7]) :
    latchSetup s = { s with
      setup := setupOf p0 p1 p2 p3 p4 p5 p6 p7
      ep0 := { s.ep0 with rxFifo0 := [] } } := by
  rw [latchSetup, hf]
  rfl

/-- The handler's first hold point is the direction handshake's when bit 7 is set, and the consumed
handshake's otherwise. -/
theorem setupRequestHandler_of_fifo {p0 p1 p2 p3 p4 p5 p6 p7 : Byte}
    (hf : s.ep0.rxFifo0 = [p0, p1, p2, p3, p4, p5, p6, p7]) :
    setupRequestHandler s = { s with
      setup := setupOf p0 p1 p2 p3 p4 p5 p6 p7
      ep0 := if p0.getLsbD 7 then { s.ep0 with rxFifo0 := [], dirReq := .set }
        else { s.ep0 with rxFifo0 := [], rxSetupReq := .clr }
      seq := if p0.getLsbD 7 then .hold .dir else .hold .setupClr
      spin := 0 } := by
  rw [setupRequestHandler, latchSetup_of_fifo hf]
  cases hdir : p0.getLsbD 7 with
  | true => exact if_pos hdir
  | false => exact if_neg (ne_true_of_eq_false hdir)

/-- Away from the waits for its clear and from Halted, no clear of the SETUP flag is outstanding. -/
theorem SetupOk.rxSetupReq_none (h : SetupOk s) (hw : ¬ waitsForSetupClear s.seq) :
    s.ep0.rxSetupReq = .none := by
  cases hr : s.ep0.rxSetupReq with
  | none => rfl
  | set => exact absurd hr h.req_ne_set
  | clr => exact absurd (h.clr_seq hr) hw

/-- When POLL takes up a SETUP the direction is 0 (R185). -/
theorem Inv.dir_of_idle (hi : Inv s) (hq : s.seq = .idle) (hs : s.ep0.rxSetup = true) :
    s.ep0.dir = false := by
  have hreq := hi.setup.rxSetupReq_none (by simp [hq, waitsForSetupClear])
  obtain ⟨hdir, -⟩ := hi.setup.dir_fresh hs hreq (by simp [hq, setupTaken])
  exact hdir

/-- Settles O20: POLL's second test, then the hold points of the two handshakes, ready and not. -/
theorem setupHandlerLatchesAndHandshakes : Obligations.SetupHandlerLatchesAndHandshakes := by
  refine ⟨fun s p0 p1 p2 p3 p4 p5 p6 p7 hq hb hs hf => ?_, fun s hq => ⟨fun hd => ?_, fun hd => ?_⟩,
    fun s hq => ⟨fun hs => ?_, fun hs => ?_⟩, fun s hi hq hs => hi.dir_of_idle hq hs⟩
  · rw [exec_poll_of_noBusReset hq hb, pollStep2_of_setup hs, setupRequestHandler_of_fifo hf]
    rfl
  · exact engineStep_ready hq hd
  · exact move_engine_uncapped hq hd
  · exact engineStep_ready hq (by simp [holdReady, hs])
  · exact move_engine_uncapped hq (by simp [holdReady, hs])

/-! ## An EP1 packet (R180, spec/43_hid_framer.md R240 to R243) -/

/-- Settles O21: the third test is made when the first two fail, and its two outcomes. -/
theorem pollTestsEp1LastAndReturns : Obligations.PollTestsEp1LastAndReturns := by
  refine fun s v => ⟨fun hq hb hs => ⟨exec_poll_of_noReset_noSetup hq hb hs, fun h0 h1 => ?_⟩,
    fun hp => pollStep3_quiet hp v, fun hp => pollStep3_of_pending hp v⟩
  have hp : ep1Pending s = false := by simp [ep1Pending, h0, h1]
  rw [exec_poll_of_noReset_noSetup hq hb hs, pollStep3_quiet hp, pollReturn_of_idle hq]

/-- The first flagged bank in the order is the one that is drained. -/
theorem drainBanks_of_first {pre rest : List Bank} {b : Bank}
    (hpre : ∀ c ∈ pre, s.ep1.bankFlag c = false) (hf : s.ep1.bankFlag b = true) :
    drainBanks (pre ++ b :: rest) s = drainBank b rest s := by
  induction pre with
  | nil => exact if_pos hf
  | cons c pre ih =>
    obtain ⟨hc, hpre⟩ := List.forall_mem_cons.1 hpre
    exact (if_neg (by simp [hc])).trans (ih hpre)

theorem drainBank_overflow {b : Bank} (hc : frameLen < s.rxCnt + s.ep1.bankCount b)
    (rest : List Bank) : drainBank b rest s = .next (halt .malformedFrame s) := if_pos hc

theorem Inv.bankOk (hi : Inv s) (b : Bank) : BankOk b s := by
  cases b
  exacts [hi.bank0, hi.bank1]

/-- Away from the waits for its clear and from Halted, a flagged bank holds as many bytes as it
counts. -/
theorem BankOk.fifo_length {b : Bank} (h : BankOk b s) (hw : ¬ waitsForBank b s.seq)
    (hf : s.ep1.bankFlag b = true) : (s.ep1.bankFifo b).length = s.ep1.bankCount b := by
  cases hr : s.ep1.bankReq b with
  | none => exact h.whole hf hr
  | set => exact absurd hr h.req_ne_set
  | clr => exact absurd (h.clr_seq hr) hw

/-- Settles O25: POLL comes to its third test, which drains the first flagged bank. -/
theorem pollDrainsThePendingBank : Obligations.PollDrainsThePendingBank := by
  intro s b pre rest hi hq hb hs horder hpre hf
  have hpoll : exec .poll s = drainBank b rest s := by
    rw [exec_poll_of_noReset_noSetup hq hb hs, pollStep3_of_pending (ep1Pending_of_bankFlag hf),
      horder, drainBanks_of_first hpre hf]
  have hlen := (hi.bankOk b).fifo_length (by simp [hq, waitsForBank]) hf
  refine ⟨fun hfit => ⟨_, hpoll.trans (drainBank_whole hlen hfit rest), rfl, fun i hin => ?_,
    fun j hj => ?_⟩, fun hover => hpoll.trans (drainBank_overflow hover rest)⟩
  · exact storeBytes_inside _ _ _ _ (hlen.symm ▸ hin) (by omega)
  · exact storeBytes_other _ _ _ _ (hlen.symm ▸ hj)

end Sys2Proof.Machine
end
section
/-! SUPPORT. The request that the masked words of spec/42_usb_requests.md select under the default
codes: a masked word gives the code that the decoder's table is searched for. -/

namespace Sys2Proof

variable {p : Setup} {value : BitVec 64}

theorem default_req_nodup : Config.default.req.toList.Nodup := by decide

/-- A word masked to byte 1 selects the entry of the request code in it (R114). -/
theorem decodeSetup_of_requestWord (code : Byte) (hw : p.word &&& 0x000000000000FF00 = value)
    (hv : ∀ k < 8, byteOf k value = if k = 1 then code else 0 := by decide) :
    decodeSetup Config.default p
      = selectFirst code (unknownRequestOf p) (requestRules Config.default p) := by
  rw [decodeSetup_eq_selectFirst, (sel_req p code value hv).1 hw]

/-- A word masked to bytes 1 and 3, with GET_DESCRIPTOR's code in byte 1, selects the entry of the
descriptor type in byte 3 (R116). -/
theorem decodeSetup_of_descriptorWord (type : Byte) (hw : p.word &&& 0x00000000FF00FF00 = value)
    (hv : ∀ k < 8, byteOf k value = if k = 1 then 0x06 else if k = 3 then type else 0 := by decide) :
    decodeSetup Config.default p
      = selectFirst type (unknownTypeOf p) (descriptorRules Config.default p) := by
  obtain ⟨hb, ht⟩ := (sel_desc p 0x06 type value hv).1 hw
  rw [decodeSetup_getDescriptor default_req_nodup hb, decodeGetDescriptor_eq_selectFirst, ht]

/-- The recipients that get a reply to GET_STATUS are those up to 2 (R219). -/
theorem getStatusQualifies_iff_le (rt : Byte) : getStatusQualifies rt = true ↔
    rt.getLsbD 7 = true ∧ (rt.extractLsb' 0 5).toNat ≤ 2 := by
  have hmem : ∀ r : BitVec 5, r ∈ [0#5, 1#5, 2#5] ↔ r.toNat ≤ 2 := by decide
  rw [getStatusQualifies_iff, hmem]

/-- A qualifying GET_STATUS is one of the three that get a reply. -/
theorem decodeGetStatus_mem_of_qualifies (hq : getStatusQualifies p.bmRequestType = true) :
    decodeGetStatus p ∈ (statusRules p).map Prod.snd := by
  rcases decodeGetStatus_cases p with ⟨-, hm⟩ | ⟨hn, -⟩
  · exact List.mem_map_of_mem hm
  · cases hq.symm.trans hn

end Sys2Proof
end
section
/-! SUPPORT. The standard requests (spec/42_usb_requests.md R210 to R226): each is a reply with data, a
zero-length status reply, or nothing at all, and what each of the three amounts to is said once. -/

namespace Sys2Proof.Machine

variable {s : State}

/-! ## No reply -/

/-- A request that is done at once leaves the state to POLL's third step. -/
theorem silent_of_requestDone {r : Result} (h : r = requestDone s) :
    r = pollStep3 true s ∧ (ep1Pending s = false → r = .next (polledTrue s)) :=
  ⟨h, fun hp => h.trans (requestDone_quiet hp)⟩

/-- Settles O33: each of the six is done at once, and each is what its code selects. -/
theorem silentRequestsDoNothing : Obligations.SilentRequestsDoNothing := by
  refine fun rt ty index b v x l s c => ⟨fun i hi => silent_of_requestDone ?_,
    fun p => ⟨fun hw => ?_, fun hw => ?_, fun hw => ?_, fun hw => ?_, fun hb => ?_,
      fun hc hb ht => ?_⟩⟩
  · simp only [List.mem_cons, List.not_mem_nil, or_false] at hi
    rcases hi with rfl | rfl | rfl | rfl | rfl | rfl <;> rfl
  · exact ⟨_, _, _, _, decodeSetup_of_requestWord 0x01 hw⟩
  · exact ⟨_, _, _, _, decodeSetup_of_requestWord 0x03 hw⟩
  · exact ⟨_, _, _, _, decodeSetup_of_requestWord 0x0C hw⟩
  · exact ⟨_, _, _, _, decodeSetup_of_requestWord 0x07 hw⟩
  · exact ⟨_, _, _, _, _, decodeSetup_unknown hb⟩
  · obtain ⟨hreq, -, -⟩ := c.codesDistinct_iff.1 hc
    exact ⟨_, _, _, _, _, (decodeSetup_getDescriptor hreq hb).trans (decodeGetDescriptor_unknown ht)⟩

/-! ## Replies -/

/-- A request with the result `r` replies: its first packet waits in `queued`; after `k` acknowledged
packets the machine is as in `done`, and POLL goes on to its third step (R190, R192, R210). -/
def RepliesWith (r : Result) (queued : State) (k : Nat) (done : State) : Prop :=
  r = .next queued
    ∧ andThen r (runMoves (ackRounds .ep0 k)) = pollStep3 true done
    ∧ (ep1Pending done = false →
      andThen r (runMoves (ackRounds .ep0 k)) = .next (polledTrue done))

theorem repliesWith_of_run {r : Result} {queued done : State} {k : Nat} (hq : r = .next queued)
    (hrun : andThen r (runMoves (ackRounds .ep0 k)) = pollStep3 true done) :
    RepliesWith r queued k done :=
  ⟨hq, hrun, fun hp => hrun.trans (requestDone_quiet hp)⟩

/-! ## Replies with data -/

/-- SendControl queues the first packet of its source and changes nothing else. -/
theorem sendControl_queues {src : Src} {n : Nat} (h : canReply s)
    (hn : n ≤ (srcBytes s.cfg src).length) : sendControl src n s
      = .next (queuedOnEp0 ((srcBytes s.cfg src).take (min n 8)) (.ctlTx ⟨src, 0, n⟩) s) := by
  obtain ⟨-, hsetup, hfifo, htrig, -, -⟩ := h
  exact sendChunk_eq hsetup ⟨hfifo, htrig⟩ (by simpa [txInRange] using hn)

/-- SendControl replies with the first `n` bytes of its source, in packets of eight. -/
theorem sendControl_repliesWith {src : Src} {n : Nat} (h : canReply s)
    (hn : n ≤ (srcBytes s.cfg src).length) : RepliesWith (sendControl src n s)
      (queuedOnEp0 ((srcBytes s.cfg src).take (min n 8)) (.ctlTx ⟨src, 0, n⟩) s)
      (max 1 ((n + 7) / 8))
      (delivered .ep0 (dataStagePackets ((srcBytes s.cfg src).take n)) s) := by
  obtain ⟨hrun, -⟩ := sendControlDeliversEveryByte src n s h hn
  exact repliesWith_of_run (sendControl_queues h hn) hrun

/-- A string of at most eight bytes is sent whole, as one packet. -/
theorem sendControl_bytes_repliesWith {bytes : Bytes} (h : canReply s) (hb : bytes.length ≤ 8) :
    RepliesWith (sendControl (.bytes bytes) bytes.length s)
      (queuedOnEp0 bytes (.ctlTx ⟨.bytes bytes, 0, bytes.length⟩) s) 1
      (delivered .ep0 [bytes] s) := by
  have hreply := sendControl_repliesWith (src := .bytes bytes) h le_rfl
  have hrounds : max 1 ((bytes.length + 7) / 8) = 1 := by omega
  simpa only [srcBytes, Nat.min_eq_left hb, List.take_length, hrounds, dataStagePackets_last hb]
    using hreply

/-- Settles O27: each of the three is SendControl of the shorter of the descriptor and `wLength`. -/
theorem getDescriptorSendsTheClippedDescriptor :
    Obligations.GetDescriptorSendsTheClippedDescriptor := by
  refine ⟨fun rt index x l s e h he => ?_, fun c => ⟨rfl, rfl, rfl⟩,
    fun p => ⟨fun hw => ?_, fun hw => ?_, fun hw => ?_⟩⟩
  · have hexec : exec e.1 s
        = sendControl e.2 (min (srcBytes s.cfg e.2).length l.toNat) s := by
      simp only [List.mem_cons, List.not_mem_nil, or_false] at he
      rcases he with rfl | rfl | rfl <;> rfl
    rw [hexec]
    exact sendControl_repliesWith h (Nat.min_le_left ..)
  · exact ⟨_, _, _, _, decodeSetup_of_descriptorWord 0x01 hw⟩
  · exact ⟨_, _, _, _, decodeSetup_of_descriptorWord 0x02 hw⟩
  · exact ⟨_, _, _, _, decodeSetup_of_descriptorWord 0x22 hw⟩

theorem srcBytes_romString {c : Config} {i : Nat} {string : Bytes}
    (h : c.rom.strings[i]? = some string) : srcBytes c (.romString i) = string := by
  rw [srcBytes, List.getD_eq_getElem?_getD, h, Option.getD_some]

/-- A string of the table is sent as far as its first byte and `wLength` say (R213). -/
theorem exec_getDescriptorString_of_some {rt index : Byte} {wIndex wLength : Half} {string : Bytes}
    (h : s.cfg.rom.strings[index.toNat]? = some string) (hne : string ≠ []) :
    exec (.getDescriptorString rt index wIndex wLength) s
      = sendControl (.romString index.toNat) (min (string.headD 0).toNat wLength.toNat) s := by
  obtain ⟨b, bs, rfl⟩ := List.exists_cons_of_ne_nil hne
  simp only [exec, execGetDescriptorString, h, replyLen, List.headD_cons]

/-- Past the table there is no reply (R213, U3). -/
theorem exec_getDescriptorString_past {rt index : Byte} {wIndex wLength : Half}
    (h : s.cfg.rom.strings.length ≤ index.toNat) :
    exec (.getDescriptorString rt index wIndex wLength) s = requestDone s := by
  simp only [exec, execGetDescriptorString, List.getElem?_eq_none h]

/-- Settles O28: in a well-formed configuration the first byte of a string is its length. -/
theorem getDescriptorStringSendsTheString : Obligations.GetDescriptorStringSendsTheString := by
  refine fun rt index x l s => ⟨fun string hwf h hstring => ?_,
    fun hpast => silent_of_requestDone (exec_getDescriptorString_past hpast),
    fun p hw => ⟨_, _, _, _, decodeSetup_of_descriptorWord 0x03 hw⟩⟩
  obtain ⟨hstrings, -⟩ := s.cfg.wf_iff.1 hwf
  obtain ⟨hne, hlen⟩ := hstrings string (List.mem_of_getElem? hstring)
  have hsrc := srcBytes_romString hstring
  have hreply := sendControl_repliesWith (src := .romString index.toNat)
    (n := min (string.headD 0).toNat l.toNat) h (by rw [hsrc, hlen]; exact Nat.min_le_left ..)
  rw [hsrc, ← exec_getDescriptorString_of_some hstring hne] at hreply
  exact hreply

/-- Settles O29: each reply is a string of one or two bytes, sent whole. -/
theorem fixedRepliesAreSentWhole : Obligations.FixedRepliesAreSentWhole := by
  intro rt kind v x l s
  obtain ⟨hother, hquiet⟩ := silent_of_requestDone (s := s)
    (r := exec (.getStatusOther rt v x l) s) rfl
  refine ⟨fun e h he => ?_, hother, hquiet, fun p => ⟨fun hw => ?_, fun hw => ?_, fun hw => ?_⟩⟩
  · obtain ⟨hexec, hlen⟩ :
        exec e.1 s = sendControl (.bytes e.2) e.2.length s ∧ e.2.length ≤ 8 := by
      simp only [List.mem_cons, List.not_mem_nil, or_false] at he
      rcases he with rfl | rfl | rfl | rfl | rfl <;> exact ⟨rfl, by simp⟩
    rw [hexec]
    exact sendControl_bytes_repliesWith h hlen
  · exact ⟨_, _, _, _, decodeSetup_of_requestWord 0x08 hw⟩
  · exact ⟨_, _, _, _, decodeSetup_of_requestWord 0x0A hw⟩
  · have hstatus : decodeSetup Config.default p = decodeGetStatus p :=
      decodeSetup_of_requestWord 0x00 hw
    simp only [hstatus, ← getStatusQualifies_iff_le]
    split
    · next hq => exact ⟨_, _, _, _, decodeGetStatus_mem_of_qualifies hq⟩
    · next hq => exact ⟨_, _, _, _, decodeGetStatus_other (eq_false_of_ne_true hq)⟩

/-! ## Zero-length status replies -/

/-- ZlpStatus triggers the empty FIFO and changes nothing else. -/
theorem zlpStatus_queues (h : canReply s) (after : AfterZlp) :
    zlpStatus after s = .next (queuedOnEp0 [] (.zlpTx after) s) := by
  obtain ⟨-, -, hfifo, -, -, -⟩ := h
  rw [queuedOnEp0, ← hfifo]
  rfl

/-- What follows the status reply reads no position. -/
theorem afterZlpAckClr_seq (after : AfterZlp) (s : State) (q : Seq) :
    afterZlpAckClr after { s with seq := q } = pollStep3 true (finishRequest after s) := by
  cases after with
  | nothing => exact pollStep3_seq true s q
  | setAddress addr => exact pollStep3_seq true (programAddress addr s) q

theorem finishRequest_delivered (after : AfterZlp) (n : TxEp) (packets : List Bytes) (s : State) :
    finishRequest after (delivered n packets s) = delivered n packets (finishRequest after s) := by
  cases after with
  | nothing | setAddress => rfl

/-- ZlpStatus replies with one empty packet, and what the request still does follows it. -/
theorem zlpStatus_repliesWith (h : canReply s) (after : AfterZlp) :
    RepliesWith (zlpStatus after s) (queuedOnEp0 [] (.zlpTx after) s) 1
      (delivered .ep0 [[]] (finishRequest after s)) := by
  refine repliesWith_of_run (zlpStatus_queues h after) ?_
  rw [zlpStatus_queues h, andThen_next, ← finishRequest_delivered, ← afterZlpAckClr_seq]
  exact ackRound_zlp h after

/-- Before the last of a status reply's four moves no link-level register has changed. -/
theorem zlpStatus_linkRegs_of_pending (h : canReply s) (after : AfterZlp) {k : Nat} (hk : k < 4) :
    ∃ t, andThen (zlpStatus after s) (runMoves ((ackRound .ep0).take k)) = .next t
      ∧ t.linkRegs = s.linkRegs := by
  rw [zlpStatus_queues h, andThen_next]
  obtain ⟨henabled, hsetup, hfifo, htrig, hacked, hreq⟩ := h
  obtain ⟨_, _, _, _, _, _, _, _, _, ep0, _, _, _, _, _, _, _, _, _, _⟩ := s
  cases ep0
  simp only at henabled hsetup hfifo htrig hacked hreq
  subst henabled hsetup hfifo htrig hacked hreq
  match k, hk with
  | 0, _ | 1, _ | 2, _ | 3, _ => exact ⟨_, rfl, rfl⟩

/-- Settles O30: the request is a status reply, and nothing follows it. -/
theorem setInterfaceSendsZeroLengthStatus : Obligations.SetInterfaceSendsZeroLengthStatus :=
  fun _ _ _ _ _ => ⟨fun h => zlpStatus_repliesWith h .nothing,
    fun _ hw => ⟨_, _, _, _, decodeSetup_of_requestWord 0x0B hw⟩⟩

/-- Settles O31: the request is a status reply, and only its last move programs the address. -/
theorem setAddressTakesEffectAfterItsStatus : Obligations.SetAddressTakesEffectAfterItsStatus := by
  refine fun rt addr high x l s => ⟨fun h => ?_,
    fun p hw => ⟨_, _, _, _, decodeSetup_of_requestWord 0x05 hw⟩⟩
  obtain ⟨hqueued, hrun, hquiet⟩ := zlpStatus_repliesWith h (.setAddress addr)
  refine ⟨hqueued, fun k hk => ?_, hrun, hquiet⟩
  obtain ⟨t, ht, hregs⟩ := zlpStatus_linkRegs_of_pending h (.setAddress addr) hk
  exact ⟨t, ht, congrArg LinkRegs.devAddr hregs, congrArg LinkRegs.link hregs⟩

/-- SET_CONFIGURATION flags no EP1 event and withdraws none (R218). -/
theorem applyConfiguration_ep1Pending (v : Byte) (s : State) :
    ep1Pending (applyConfiguration v s) = ep1Pending s := by
  unfold applyConfiguration
  split <;> rfl

theorem canReply_applyConfiguration (h : canReply s) (v : Byte) :
    canReply (applyConfiguration v s) := by
  rw [canReply, applyConfiguration_ep0]
  exact h

/-- Settles O32: the configuration is applied, and the request goes on as a status reply. -/
theorem setConfigurationSwitchesTheEndpoints : Obligations.SetConfigurationSwitchesTheEndpoints := by
  refine fun rt v high x l s => ⟨fun h => ?_,
    fun p hw => ⟨_, _, _, _, decodeSetup_of_requestWord 0x09 hw⟩⟩
  obtain ⟨hqueued, hrun, hquiet⟩ :=
    zlpStatus_repliesWith (canReply_applyConfiguration h v) .nothing
  exact ⟨hqueued, hrun, fun hp => hquiet ((applyConfiguration_ep1Pending v s).trans hp)⟩

end Sys2Proof.Machine
end
section
/-! SUPPORT. The receive handler and DrainBank (spec/43_hid_framer.md R240 to R247): the order of
the banks, one bank drained, and what follows its clear and a dispatch. -/

namespace Sys2Proof.Machine

variable {s : State} {b : Bank} {rest : List Bank}

/-! ## The clear of a bank is seen (R243 to R245) -/

theorem move_engine_of_bankCleared (hq : s.seq = .hold (.rxClr b rest))
    (hf : s.ep1.bankFlag b = false) : move .engine s = afterBankCleared rest s :=
  engineStep_ready hq (by simp [holdReady, hf])

theorem afterBankCleared_of_whole (hc : s.rxCnt = 64) (rest : List Bank) :
    afterBankCleared rest s = .next (dispatchFrame rest s) := if_pos hc

theorem afterBankCleared_of_partial (hc : s.rxCnt ≠ 64) (rest : List Bank) :
    afterBankCleared rest s = drainBanks rest s := if_neg hc

/-- Settles O23: the overflow test, the bank moved whole into the buffer, and the three outcomes of
a turn at HP_RX_CLR. -/
theorem drainBankAppendsAndClears : Obligations.DrainBankAppendsAndClears := by
  refine ⟨fun s b rest => ⟨fun hover => drainBank_overflow hover rest, fun hfit hlen => ?_,
      fun hcount hmul hlt => by omega⟩,
    fun s b rest hq => ⟨fun hf hcap => ?_, fun hf hc => ?_, fun hf hc => ?_⟩⟩
  · refine ⟨_, drainBank_whole hlen hfit rest, fun i hi => ?_, fun j hj => ?_⟩
    · exact storeBytes_inside _ _ _ _ (hlen.symm ▸ hi) (by omega)
    · exact storeBytes_other _ _ _ _ (hlen.symm ▸ hj)
  · exact move_engine_uncapped hq (by simp [holdReady, hf]) hcap
  · exact (move_engine_of_bankCleared hq hf).trans (afterBankCleared_of_whole hc rest)
  · exact (move_engine_of_bankCleared hq hf).trans (afterBankCleared_of_partial hc rest)

/-! ## The turn of each bank (R240, R247) -/

theorem drainBanks_of_not_flagged (hf : s.ep1.bankFlag b = false) (rest : List Bank) :
    drainBanks (b :: rest) s = drainBanks rest s := if_neg (by simp [hf])

/-- Settles O24: each branch of the handler's recursion over the banks that are left, entered again
after a clear and after a dispatch. -/
theorem banksAreTestedWhenTheirTurnComes : Obligations.BanksAreTestedWhenTheirTurnComes := by
  refine ⟨rfl, rfl, fun s => rfl, fun s b rest => ⟨fun hf => ?_, fun hf => ?_⟩,
    fun s b rest hq hf hlt => ?_, fun s frame rest hq => consumerReturn_of_dispatch hq⟩
  · exact drainBanks_of_first (List.forall_mem_nil _) hf
  · exact drainBanks_of_not_flagged hf rest
  · exact (move_engine_of_bankCleared hq hf).trans (afterBankCleared_of_partial hlt.ne rest)

end Sys2Proof.Machine
end
section
/-! SUPPORT. SEND_FRAME for its two callers (spec/43_hid_framer.md R250 to R253): where a caller
stands, the first packet, and the return. -/

namespace Sys2Proof.Machine

variable {s : State} {bytes : Bytes} {c : Caller}

/-! ## The callers (R251) -/

/-- Where the ENGINE is when a caller invokes SEND_FRAME, and where SEND_FRAME returns. -/
def Caller.position : Caller → Seq
  | .loop => .idle
  | .consumer frame rest => .hold (.dispatch frame rest)

theorem exists_caller_of_seq
    (h : s.seq = .idle ∨ ∃ frame rest, s.seq = .hold (.dispatch frame rest)) :
    ∃ c : Caller, s.seq = c.position := by
  rcases h with hq | ⟨frame, rest, hq⟩
  · exact ⟨.loop, hq⟩
  · exact ⟨.consumer frame rest, hq⟩

theorem exec_sendFrame_of_caller (hq : s.seq = c.position) (bytes : Bytes) :
    exec (.sendFrame bytes) s = startSendFrame bytes c s := by
  cases c <;> simp [exec, execSendFrame, hq, Caller.position]

/-- A caller finds the ENGINE where it was; a return to the dispatch starts the iteration counter
anew. -/
theorem frameReturn_of_caller (hq : s.seq = c.position) :
    ∃ spin, frameReturn c s = { s with spin := spin } := by
  cases c with
  | loop => exact ⟨s.spin, by rw [frameReturn, ← show s.seq = .idle from hq]⟩
  | consumer frame rest =>
    exact ⟨0, by rw [frameReturn, goto, ← show s.seq = .hold (.dispatch frame rest) from hq]⟩

/-! ## The start (R250, R252) -/

theorem startSendFrame_nil (c : Caller) (s : State) :
    startSendFrame [] c s = .next (frameReturn c s) := sendFrameLoop_done rfl

/-- The first packet of at most eight bytes is queued, whatever the length. -/
theorem startSendFrame_queues (hne : bytes ≠ []) (hquiet : s.ep2.txQuiet) (c : Caller) :
    startSendFrame bytes c s
      = .next (queuedOnEp2 (bytes.take 8) (.frmTx ⟨.bytes bytes, 0, bytes.length⟩ c) s) := by
  obtain ⟨hfifo, htrig, -, -⟩ := hquiet
  have hchunk : bytes.take (min bytes.length 8) = bytes.take 8 := by
    rw [List.take_eq_take_iff]
    omega
  have hin : txInRange s.cfg ⟨.bytes bytes, 0, bytes.length⟩ := by simp [txInRange, srcBytes]
  rw [startSendFrame, sendFrameLoop_eq (by simpa using hne) ⟨hfifo, htrig⟩ hin, ← hchunk]
  rfl

/-- Settles O36: each caller starts SendFrame, which returns at once from the empty string and
queues the first packet of any other. -/
theorem sendFrameStartsForItsTwoCallers : Obligations.SendFrameStartsForItsTwoCallers := by
  refine fun bytes s => ⟨fun hq => ?_, fun hq hne hquiet => ?_, fun frame rest hq =>
    ⟨?_, fun hne hquiet => ?_⟩⟩
  · rw [exec_sendFrame_of_caller (c := .loop) hq, startSendFrame_nil, frameReturn, ← hq]
  · rw [exec_sendFrame_of_caller (c := .loop) hq, startSendFrame_queues hne hquiet]
  · rw [exec_sendFrame_of_caller (c := .consumer frame rest) hq, startSendFrame_nil,
      frameReturn, goto, ← hq]
  · rw [exec_sendFrame_of_caller (c := .consumer frame rest) hq, startSendFrame_queues hne hquiet]

/-! ## The whole transfer (R250, spec/70_reset_and_hazards.md R371) -/

/-- Settles O37: SendFrame delivers the packets of its bytes and returns to a caller that stands
where it did. -/
theorem sendFrameDeliversEveryByte : Obligations.SendFrameDeliversEveryByte := by
  intro bytes s h hseq
  obtain ⟨c, hq⟩ := exists_caller_of_seq hseq
  obtain ⟨spin, hrun⟩ := startSendFrame_delivers h bytes c
  obtain ⟨spin', hreturn⟩ := frameReturn_of_caller (c := c)
    (s := { delivered .ep2 (packets bytes) s with spin := spin }) hq
  refine ⟨⟨spin', ?_⟩, packets_length bytes, packets_flatten bytes, packets_mem bytes⟩
  rw [exec_sendFrame_of_caller hq, ← packets_length, hrun, hreturn]

end Sys2Proof.Machine
end
section
/-! SUPPORT. The moves of BUS (spec/44_environment.md R270 to R275): when each exists, and its next
state. -/

namespace Sys2Proof.Machine

variable {s : State} {p d : Bytes} {b : Bank} {n : TxEp}

/-! ## BusReset and BusSetup (R270, R271, R273) -/

theorem busSetupAllowed_iff : busSetupAllowed p s = true ↔ p.length = 8 ∧ s.ep0.enabled = true
    ∧ s.ep0.rxSetup = false ∧ s.ep0.rxSetupReq = .none := by
  simp [busSetupAllowed, and_assoc]

/-- Settles O41: the effects are the model's by definition, and the precondition is R271's. -/
theorem busResetFlagsAndBusSetupDelivers : Obligations.BusResetFlagsAndBusSetupDelivers :=
  ⟨fun _ => rfl, fun _ _ => if_congr busSetupAllowed_iff rfl rfl⟩

/-! ## BusOut (R272) -/

theorem bankAllowed_iff :
    bankAllowed b s = true ↔ (s.cfg.bankFillPolicy = .alternate → s.fillNext = b) := by
  unfold bankAllowed
  cases s.cfg.bankFillPolicy with
  | any => simp
  | alternate => simpa using eq_comm

theorem busOutAllowed_iff : busOutAllowed b d s = true ↔ d.length ≤ 8 ∧ s.ep1.enabled = true
    ∧ s.ep1.bankFlag b = false ∧ s.ep1.bankReq b = .none
    ∧ (s.cfg.bankFillPolicy = .alternate → s.fillNext = b) := by
  show _ ↔ d.length ≤ fifoDepth ∧ _
  simp [busOutAllowed, bankAllowed_iff, and_assoc]

/-- Under the alternating policy the bank just filled was `fill_next`. -/
theorem nextFill_of_allowed (h : busOutAllowed b d s = true) : nextFill s
    = if s.cfg.bankFillPolicy = .alternate then b.other else s.fillNext := by
  obtain ⟨-, -, -, -, hturn⟩ := busOutAllowed_iff.1 h
  unfold nextFill
  cases hp : s.cfg.bankFillPolicy with
  | any => simp
  | alternate => simp [hturn hp]

theorem move_busOut_eq (b : Bank) (d : Bytes) (s : State) : move (.busOut b d) s
    = if d.length ≤ 8 ∧ s.ep1.enabled = true ∧ s.ep1.bankFlag b = false
        ∧ s.ep1.bankReq b = .none ∧ (s.cfg.bankFillPolicy = .alternate → s.fillNext = b) then
      .next { s with
        ep1 := s.ep1.fillBank b d
        fillNext := if s.cfg.bankFillPolicy = .alternate then b.other else s.fillNext }
    else .refused .noSuchBusMove :=
  ite_congr (propext busOutAllowed_iff)
    (fun h => by rw [nextFill_of_allowed (busOutAllowed_iff.2 h)]) fun _ => rfl

/-- Settles O42: the move's equation at each bank; the initial values are the model's. -/
theorem busOutFillsAFreeBank : Obligations.BusOutFillsAFreeBank :=
  ⟨fun d s => ⟨move_busOut_eq .b0 d s, move_busOut_eq .b1 d s⟩, rfl, fun _ => ⟨rfl, rfl⟩⟩

/-! ## BusInAck (R274) -/

theorem busInAckAllowed_iff : busInAckAllowed n s = true ↔ (txEndpoint n s).enabled = true
    ∧ (txEndpoint n s).txTrigger = true ∧ (txEndpoint n s).txAcked = false
    ∧ (txEndpoint n s).txAckedReq = .none := by
  simp [busInAckAllowed, and_assoc]

/-- Settles O43: the effects are the model's by definition, and the precondition is R274's. -/
theorem busInAckTakesTheQueuedPacket : Obligations.BusInAckTakesTheQueuedPacket :=
  fun _ => ⟨if_congr (busInAckAllowed_iff (n := .ep0)) rfl rfl,
    if_congr (busInAckAllowed_iff (n := .ep2)) rfl rfl⟩

/-! ## Reflect (R275) -/

theorem move_reflect_eq (f : Flag) (s : State) : move (.reflect f) s
    = if flagReq f s = .none then .refused .noSuchBusMove
      else .next (showFlag f (flagReq f s == .set) s) := by
  simp only [move, reflect]
  cases flagReq f s <;> rfl

/-- Settles O44: the move's equation at each of the six flags. -/
theorem reflectShowsTheDelayedWrite : Obligations.ReflectShowsTheDelayedWrite :=
  fun s => ⟨move_reflect_eq .ep0Dir s, move_reflect_eq .ep0RxSetup s,
    move_reflect_eq .ep0TxAcked s, move_reflect_eq .ep2TxAcked s,
    move_reflect_eq (.ep1RxBank .b0) s, move_reflect_eq (.ep1RxBank .b1) s⟩

end Sys2Proof.Machine
end
section
/-! SUPPORT. What BUS leaves alone (spec/44_environment.md R277): the flags with a delayed write,
and everything but the endpoints' packets and flags, the pending reset, its own bank order and the
history. -/

namespace Sys2Proof.Machine

variable {s t : State} {f g : Flag} {m : Move}

/-! ## A delayed write (spec/20_memory.md R92) -/

theorem readFlag_requestFlag (f g : Flag) (r : Req) (s : State) :
    readFlag g (requestFlag f r s) = readFlag g s := by
  cases f <;> cases g <;> simp [readFlag]

theorem flagReq_requestFlag_same (f : Flag) (r : Req) (s : State) :
    flagReq f (requestFlag f r s) = r := by
  cases f <;> simp [flagReq]

theorem flagReq_requestFlag_other (h : g ≠ f) (r : Req) (s : State) :
    flagReq g (requestFlag f r s) = flagReq g s := by
  cases f <;> cases g <;> simp_all [flagReq, setBankReq_bankReq_other]

theorem flagReq_requestFlag (f g : Flag) (r : Req) (s : State) :
    flagReq g (requestFlag f r s) = if g = f then r else flagReq g s := by
  split
  · next h => rw [h, flagReq_requestFlag_same]
  · next h => exact flagReq_requestFlag_other h r s

/-! ## The flags other than the one a move writes -/

theorem setBankFlag_bankReq (e : Endpoint) (b c : Bank) (v : Bool) :
    (e.setBankFlag b v).bankReq c = e.bankReq c := by cases b <;> cases c <;> rfl

theorem flagReq_showFlag_other (h : g ≠ f) (v : Bool) :
    flagReq g (showFlag f v s) = flagReq g s := by
  cases f <;> cases g <;>
    simp_all [flagReq, showFlag, setBankReq_bankReq_other, setBankFlag_bankReq]

theorem fillBank_bankReq (e : Endpoint) (b c : Bank) (d : Bytes) :
    (e.fillBank b d).bankReq c = e.bankReq c := by cases b <;> cases c <;> rfl

theorem readFlag_fillBank_other {b n : Bank} (h : f ≠ .ep1RxBank b) (d : Bytes) :
    readFlag f { s with ep1 := s.ep1.fillBank b d, fillNext := n } = readFlag f s := by
  cases f with
  | ep1RxBank c => exact fillBank_bankFlag_other s.ep1 (by rintro rfl; exact h rfl) d
  | ep0Dir | ep0RxSetup | ep0TxAcked | ep2TxAcked => rfl

theorem flagReq_fillBank {b n : Bank} (f : Flag) (d : Bytes) :
    flagReq f { s with ep1 := s.ep1.fillBank b d, fillNext := n } = flagReq f s := by
  cases f with
  | ep1RxBank c => exact fillBank_bankReq s.ep1 b c d
  | ep0Dir | ep0RxSetup | ep0TxAcked | ep2TxAcked => rfl

theorem readFlag_taken_other {n : TxEp} {e : Event} (h : f ≠ ackFlag n) :
    readFlag f (setTxEndpoint n (txEndpoint n s).taken (emit e s)) = readFlag f s := by
  cases n with
  | ep0 =>
    cases f with
    | ep0TxAcked => exact absurd rfl h
    | ep0Dir | ep0RxSetup | ep2TxAcked | ep1RxBank => rfl
  | ep2 =>
    cases f with
    | ep2TxAcked => exact absurd rfl h
    | ep0Dir | ep0RxSetup | ep0TxAcked | ep1RxBank => rfl

theorem flagReq_taken {n : TxEp} {e : Event} (f : Flag) :
    flagReq f (setTxEndpoint n (txEndpoint n s).taken (emit e s)) = flagReq f s := by
  cases n <;> cases f <;> rfl

theorem flagReq_ackFlag (n : TxEp) (s : State) :
    flagReq (ackFlag n) s = (txEndpoint n s).txAckedReq := by cases n <;> rfl

/-- Between a delayed write and its Reflect only a SETUP touches the flag: a packet arrives or is
taken only where no write of its flag is outstanding. -/
theorem busMove_of_requested (hf : flagReq f s ≠ .none) (hm : isBusMove m = true)
    (hr : m ≠ .reflect f) (hp : ∀ p, m ≠ .busSetup p) (h : move m s = .next t) :
    readFlag f t = readFlag f s ∧ flagReq f t = flagReq f s := by
  cases m with
  | busReset => cases h; exact ⟨rfl, rfl⟩
  | busSetup p => exact absurd rfl (hp p)
  | busOut b d =>
    obtain ⟨ha, rfl⟩ := busOut_next h
    obtain ⟨-, -, -, hreq, -⟩ := busOutAllowed_iff.1 ha
    have hne : f ≠ .ep1RxBank b := by rintro rfl; exact hf hreq
    exact ⟨readFlag_fillBank_other hne d, flagReq_fillBank f d⟩
  | busInAck n =>
    obtain ⟨ha, rfl⟩ := busInAck_next h
    obtain ⟨-, -, -, hreq⟩ := busInAckAllowed_iff.1 ha
    have hne : f ≠ ackFlag n := by rintro rfl; exact hf ((flagReq_ackFlag n s).trans hreq)
    exact ⟨readFlag_taken_other hne, flagReq_taken f⟩
  | reflect g =>
    have hne : f ≠ g := by rintro rfl; exact hr rfl
    rcases reflect_next h with ⟨-, rfl⟩ | ⟨-, rfl⟩ <;>
      exact ⟨readFlag_showFlag_other hne _, flagReq_showFlag_other hne _⟩
  | engine | invoke | serveFrame | consumerReturn | consumerHalt | restart => cases hm

/-! ## The rest of the state -/

/-- What the ENGINE alone configures of an endpoint: whether it is enabled, and its type. -/
def Endpoint.kind (e : Endpoint) : Bool × EpType := (e.enabled, e.eptype)

/-- `s` with its endpoints, BUS's bank order and the history replaced: all that BUS writes but the
pending reset. -/
def withBusSide (ep0 ep1 ep2 : Endpoint) (fill : Bank) (history : List Event) (s : State) : State :=
  { s with ep0 := ep0, ep1 := ep1, ep2 := ep2, fillNext := fill, history := history }

theorem fillBank_kind (e : Endpoint) (b : Bank) (d : Bytes) : (e.fillBank b d).kind = e.kind := by
  cases b <;> rfl

theorem showFlag_eq_withBusSide (f : Flag) (v : Bool) (s : State) : ∃ ep0 ep1 ep2,
    showFlag f v s = withBusSide ep0 ep1 ep2 s.fillNext s.history s
      ∧ ep0.kind = s.ep0.kind ∧ ep1.kind = s.ep1.kind ∧ ep2.kind = s.ep2.kind := by
  cases f with
  | ep1RxBank b => cases b <;> exact ⟨_, _, _, rfl, rfl, rfl, rfl⟩
  | ep0Dir | ep0RxSetup | ep0TxAcked | ep2TxAcked => exact ⟨_, _, _, rfl, rfl, rfl, rfl⟩

/-- A move of BUS flags the reset, or writes its own side and no endpoint's kind. -/
theorem busMove_cases (hm : isBusMove m = true) (h : move m s = .next t) :
    t = busReset s ∨ ∃ ep0 ep1 ep2 fill history, t = withBusSide ep0 ep1 ep2 fill history s
      ∧ ep0.kind = s.ep0.kind ∧ ep1.kind = s.ep1.kind ∧ ep2.kind = s.ep2.kind := by
  cases m with
  | busReset => cases h; exact .inl rfl
  | busSetup p =>
    obtain ⟨-, rfl⟩ := busSetup_next h
    exact .inr ⟨_, s.ep1, s.ep2, s.fillNext, s.history, rfl, rfl, rfl, rfl⟩
  | busOut b d =>
    obtain ⟨-, rfl⟩ := busOut_next h
    exact .inr ⟨s.ep0, _, s.ep2, _, s.history, rfl, rfl, fillBank_kind s.ep1 b d, rfl⟩
  | busInAck n =>
    obtain ⟨-, rfl⟩ := busInAck_next h
    cases n with
    | ep0 => exact .inr ⟨_, s.ep1, s.ep2, s.fillNext, _, rfl, rfl, rfl, rfl⟩
    | ep2 => exact .inr ⟨s.ep0, s.ep1, _, s.fillNext, _, rfl, rfl, rfl, rfl⟩
  | reflect f =>
    obtain ⟨v, rfl⟩ : ∃ v, t = showFlag f v s := by
      rcases reflect_next h with ⟨-, rfl⟩ | ⟨-, rfl⟩ <;> exact ⟨_, rfl⟩
    obtain ⟨ep0, ep1, ep2, ht, hk⟩ := showFlag_eq_withBusSide f v s
    exact .inr ⟨ep0, ep1, ep2, s.fillNext, s.history, ht, hk⟩
  | engine | invoke | serveFrame | consumerReturn | consumerHalt | restart => cases hm

/-- Settles O45: a request is recorded beside its flag; the packets BUS moves and the writes it
reflects are those of flags without another request; all else is not on BUS's side. -/
theorem busTouchesOnlyWhatItMay : Obligations.BusTouchesOnlyWhatItMay := by
  refine ⟨fun f g r s => ⟨readFlag_requestFlag f g r s, flagReq_requestFlag f g r s⟩,
    fun _ _ _ _ => busMove_of_requested, fun m s t hm h => ?_⟩
  rcases busMove_cases hm h with rfl | ⟨ep0, ep1, ep2, fill, history, rfl, h0, h1, h2⟩
  · simp
  · simp only [Endpoint.kind, Prod.mk.injEq] at h0 h1 h2
    simp [withBusSide, h0, h1, h2]

end Sys2Proof.Machine
end
section
/-! SUPPORT. The command frames (spec/44_environment.md R280, R283): the reply's first packet, what
each frame writes before it, and where no frame is served. -/

namespace Sys2Proof.Machine

variable {s t : State} {e1 e2 e3 : Word} {p frame : Bytes} {rest : List Bank}

/-! ## Where operations and frames do not exist (R280, R284) -/

/-- Settles O22: each operation is refused away from its invokers' positions. -/
theorem operationsRefusedWhileBusy : Obligations.OperationsRefusedWhileBusy :=
  fun _ _ hi => ⟨execPoll_busy hi, execSendFrame_busy hi⟩

theorem exec_frame_refused {i : Instr} (hi : i.format = .frame)
    (hd : ∀ frame rest, s.seq ≠ .hold (.dispatch frame rest)) :
    exec i s = .refused .notConsumersTurn := by
  cases i with
  | crcSeed | crcLoad | crcFeed | crcRaw | crcFinal | poll | sendFrame => cases hi
  | frameDeviceInfo | frameHardwareReset | frameAck => exact atDispatch_refused hd
  | frameFinishWrite e1 e2 e3 p => exact atDispatch_refused (s := finishPage e1 p s) hd
  | frameSetupWrite e1 e2 e3 p =>
    obtain ⟨staging, k, hs⟩ := stagePayload_eq_withStorage e1 p s
    rw [exec, execFrameSetupWrite, hs]
    exact atDispatch_refused (s := withStorage staging s.flash k s) hd
  | _ => cases hi

/-- Settles O50: the ACK frame is CONSUMER's own halt, and CONSUMER moves at the dispatch only. -/
theorem ackFrameIsAnUnknownCommand : Obligations.AckFrameIsAnUnknownCommand := by
  refine fun e1 e2 e3 p s =>
    ⟨fun frame rest hq => consumerHalt_of_dispatch (r := .unknownOpcode) hq nofun,
      fun hd i hi => exec_frame_refused ?_ hd⟩
  simp only [List.mem_cons, List.not_mem_nil, or_false] at hi
  rcases hi with rfl | rfl | rfl | rfl | rfl <;> rfl

/-! ## The reply (spec/30_encoding.md R124) -/

theorem frameBytes_take_eight (op e1 e2 e3 : Word) (p : Bytes) :
    (frameBytes op e1 e2 e3 p).take 8 = bytes32 op ++ bytes32 e1 := rfl

/-- The echo's first eight bytes are queued on EP2, to return to the same dispatch. -/
theorem replyAck_queues (hp : p.length = 48) (hq : s.seq = .hold (.dispatch frame rest))
    (hquiet : s.ep2.txQuiet) :
    replyAck e1 e2 e3 p s = .next (queuedOnEp2 (bytes32 s.cfg.op.ack ++ bytes32 e1)
      (.frmTx ⟨.bytes (frameBytes s.cfg.op.ack e1 e2 e3 p), 0, 64⟩ (.consumer frame rest)) s) := by
  have hlen : (frameBytes s.cfg.op.ack e1 e2 e3 p).length = 64 := frameBytes_length _ _ _ _ _ hp
  have hne : frameBytes s.cfg.op.ack e1 e2 e3 p ≠ [] := List.ne_nil_of_length_pos (by omega)
  rw [replyAck_of_dispatch hq, ackFrame, startSendFrame_queues hne hquiet, frameBytes_take_eight,
    hlen]

/-- Settles O47: both frames are the reply alone. -/
theorem deviceInfoAndHardwareResetOnlyReply : Obligations.DeviceInfoAndHardwareResetOnlyReply := by
  intro e1 e2 e3 p frame rest s hp hq hquiet i hi
  simp only [List.mem_cons, List.not_mem_nil, or_false] at hi
  rcases hi with rfl | rfl <;> exact replyAck_queues hp hq hquiet

/-! ## SETUP_WRITE -/

/-- The area after a payload: its bytes inside the area are written, and where it fits the others
stay and no free value is drawn (assumption log 9). -/
theorem stagePayload_spec (offset : Word) (p : Bytes) (s : State) :
    ∃ staging drawn,
      stagePayload offset p s = { s with staging := staging, freeCount := s.freeCount + drawn }
      ∧ (∀ i < p.length, 4 * offset.toNat + i < 256 → staging[4 * offset.toNat + i]? = p[i]?)
      ∧ (4 * offset.toNat + p.length ≤ 256 → drawn = 0
        ∧ ∀ j, j < 4 * offset.toNat ∨ 4 * offset.toNat + p.length ≤ j →
          staging[j]? = s.staging[j]?) := by
  unfold stagePayload
  split
  · exact ⟨_, 0, rfl, storeBytes_inside _ _ p, fun _ => ⟨rfl, storeBytes_other _ _ p⟩⟩
  · next hrun => exact ⟨_, pageLen, rfl, storeBytes_inside _ _ p, fun hfit => absurd hfit hrun⟩

/-- Settles O48: the payload is staged, and the reply goes on from there. -/
theorem setupWriteStagesItsPayload : Obligations.SetupWriteStagesItsPayload := by
  intro e1 e2 e3 p frame rest s hp hq hquiet
  obtain ⟨staging, drawn, hs, hin, hfit⟩ := stagePayload_spec e1 p s
  rw [hp] at hin hfit
  refine ⟨staging, drawn, ?_, hin, hfit⟩
  rw [exec, execFrameSetupWrite, hs]
  exact replyAck_queues hp hq hquiet

/-! ## FINISH_WRITE -/

/-- The page that contains an address: the addresses with the same page number. -/
theorem page_eq_iff (addr : Word) (a : Nat) :
    a / 256 = addr.toNat / 256 ↔ pageBase addr ≤ a ∧ a < pageBase addr + 256 := by
  unfold pageBase pageLen
  omega

theorem page_offset {addr : Word} {a : Nat} (h : a / 256 = addr.toNat / 256) :
    pageBase addr + a % 256 = a := by
  unfold pageBase pageLen
  omega

/-- Programming a page: inside it the flash reads as the staging area, elsewhere as before. -/
theorem read_programmedPage {m : Memory} (hm : Memory.wf m) (addr : Word)
    (staging : Vector Byte 256) (a : Nat) :
    if a / 256 = addr.toNat / 256 then
      some (Memory.read (Memory.writeBytes m (pageBase addr) staging.toList) a) = staging[a % 256]?
    else Memory.read (Memory.writeBytes m (pageBase addr) staging.toList) a = Memory.read m a := by
  split
  · next hpage =>
    have hread := Memory.read_writeBytes_inside hm (pageBase addr) staging.toList (a % 256)
      (by rw [Vector.length_toList]; omega)
    rw [page_offset hpage] at hread
    rw [hread]
    simp
  · next hpage =>
    rw [page_eq_iff] at hpage
    exact Memory.read_writeBytes_other hm _ _ a (by rw [Vector.length_toList]; omega)

/-- Settles O49: the last 16 bytes are stored at offset 240, the page is programmed with the area,
and the reply goes on from there. -/
theorem finishWriteProgramsThePage : Obligations.FinishWriteProgramsThePage := by
  intro e1 e2 e3 p frame rest s hp hq hquiet hwf
  have hfinal : (finalBytes p).length = 16 := by rw [finalBytes, List.length_drop]; omega
  refine ⟨storeBytes s.staging finishOffset (finalBytes p), _,
    replyAck_queues (s := finishPage e1 p s) hp hq hquiet, fun i hi => ?_, fun j hj => ?_,
    read_programmedPage hwf e1 _, Memory.wf_writeBytes hwf _ _⟩
  · rw [← finishOffset, storeBytes_inside _ _ _ _ (by omega) (by unfold finishOffset; omega),
      finalBytes, List.getElem?_drop, hp]
  · exact storeBytes_other _ _ _ _ (.inl hj)

end Sys2Proof.Machine
end
section
/-! SUPPORT. The flash (spec/44_environment.md R283): no stretch of the ENGINE, no move of another
agent and no frame but FINISH_WRITE writes it. -/

namespace Sys2Proof.Machine

variable {s t : State}

/-! ## The stretches -/

theorem drainBanks_flash {l : List Bank} (h : drainBanks l s = .next t) : t.flash = s.flash := by
  rcases drainBanks_cases l s with hd | ⟨b, rest, -, hd⟩ <;> rw [hd] at h
  · cases h; rfl
  · rcases drainBank_next h with ⟨-, rfl⟩ | ⟨-, rfl⟩ <;> simp

theorem pollStep3_flash {v : Bool} (h : pollStep3 v s = .next t) : t.flash = s.flash := by
  unfold pollStep3 at h
  split at h
  · exact drainBanks_flash h
  · cases h; rfl

theorem sendChunk_flash {x : Tx} (h : sendChunk x s = .next t) : t.flash = s.flash := by
  rcases sendChunk_next h with ⟨-, h⟩ | ⟨-, -, -, chunk, -, rfl⟩
  · exact pollStep3_flash h
  · rfl

@[simp] theorem frameReturn_flash (c : Caller) (s : State) :
    (frameReturn c s).flash = s.flash := by cases c <;> rfl

theorem sendFrameLoop_flash {x : Tx} {c : Caller} (h : sendFrameLoop x c s = .next t) :
    t.flash = s.flash := by
  rcases sendFrameLoop_next h with ⟨-, rfl⟩ | ⟨-, -, -, chunk, -, rfl⟩
  · simp
  · rfl

@[simp] theorem setupRequestHandler_flash (s : State) :
    (setupRequestHandler s).flash = s.flash := by
  obtain ⟨p, q, k, hl⟩ := latchSetup_eq s
  simp only [setupRequestHandler, hl]
  split <;> rfl

theorem pollStep2_flash {v : Bool} (h : pollStep2 v s = .next t) : t.flash = s.flash := by
  unfold pollStep2 at h
  split at h
  · cases h; simp
  · exact pollStep3_flash h

theorem execPoll_flash (h : execPoll s = .next t) : t.flash = s.flash := by
  unfold execPoll at h
  split at h
  · split at h
    · exact pollStep2_flash (s := busResetService s) h
    · exact pollStep2_flash h
  · cases h

theorem exec_request_flash {i : Instr} (hi : i.format = .setup) (h : exec i s = .next t) :
    t.flash = s.flash := by
  rcases exec_request_cases hi s with he | ⟨src, n, he⟩ | he | ⟨after, he⟩ | ⟨_, v, _, _, _, rfl⟩
  · exact pollStep3_flash (he.symm.trans h)
  · exact sendChunk_flash (he.symm.trans h)
  · cases he.symm.trans h
  · cases he.symm.trans h; simp
  · cases h; simp

/-! ## The ENGINE's turn -/

theorem resume_flash {h : Hold} (hr : resume h s = .next t) : t.flash = s.flash := by
  cases h with
  | dir | zlpTx | dispatch | frmTx => cases hr; rfl
  | setupClr => exact exec_request_flash (decodeSetup_format ..) hr
  | ctlTx x =>
    simp only [resume, afterCtlTx] at hr
    split at hr
    · exact pollStep3_flash hr
    · cases hr; rfl
  | ctlAckClr x =>
    simp only [resume, afterCtlAckClr] at hr
    split at hr
    · exact pollStep3_flash hr
    · exact sendChunk_flash hr
  | zlpAckClr after =>
    have hf : t.flash = (finishRequest after s).flash := pollStep3_flash hr
    cases after <;> exact hf
  | rxClr b rest =>
    simp only [resume, afterBankCleared] at hr
    split at hr
    · cases hr; rfl
    · exact drainBanks_flash hr
  | frmAckClr x c => exact sendFrameLoop_flash hr

theorem engineStep_flash (h : engineStep s = .next t) : t.flash = s.flash := by
  unfold engineStep at h
  split at h
  · cases h; rfl
  · cases h; rfl
  · next hp _ =>
    split at h
    · exact resume_flash h
    · cases h
      rcases failedTest_cases hp s with ht | ht | ht <;> simp [ht]

/-! ## The other agents -/

theorem invoke_flash {call : Bytes} (h : move (.invoke call) s = .next t) : t.flash = s.flash := by
  rcases invoke_cases h with ⟨-, h⟩ | ⟨bytes, h⟩ | ⟨_, _, rfl⟩
  · exact execPoll_flash h
  · rcases execSendFrame_next h with ⟨-, h⟩ | ⟨_, _, -, h⟩ <;> exact sendFrameLoop_flash h
  · rfl

theorem busMove_flash {m : Move} (hm : isBusMove m = true) (h : move m s = .next t) :
    t.flash = s.flash := by
  rcases busMove_cases hm h with rfl | ⟨_, _, _, _, _, rfl, -⟩ <;> rfl

theorem replyAck_flash {e1 e2 e3 : Word} {p : Bytes} (h : replyAck e1 e2 e3 p s = .next t) :
    t.flash = s.flash := by
  obtain ⟨_, _, -, h⟩ := atDispatch_next h
  exact sendFrameLoop_flash h

theorem exec_frame_flash {i : Instr} (hi : i.format = .frame) (h : exec i s = .next t) :
    t.flash = s.flash ∨ ∃ e1 e2 e3 p, i = .frameFinishWrite e1 e2 e3 p := by
  cases i with
  | crcSeed | crcLoad | crcFeed | crcRaw | crcFinal | poll | sendFrame => cases hi
  | frameDeviceInfo | frameHardwareReset => exact .inl (replyAck_flash h)
  | frameSetupWrite e1 e2 e3 p =>
    obtain ⟨staging, k, hs⟩ := stagePayload_eq_withStorage e1 p s
    rw [exec, execFrameSetupWrite, hs] at h
    exact .inl (replyAck_flash (s := withStorage staging s.flash k s) h)
  | frameFinishWrite => exact .inr ⟨_, _, _, _, rfl⟩
  | frameAck => rw [consumerHalt_next (r := .unknownOpcode) h]; exact .inl rfl
  | _ => cases hi

theorem serveFrame_flash (h : serveFrame s = .next t) :
    t.flash = s.flash ∨ ∃ frame rest e1 e2 e3 p, s.seq = .hold (.dispatch frame rest)
      ∧ decode s.cfg .frame frame = .ok (.frameFinishWrite e1 e2 e3 p) := by
  obtain ⟨frame, rest, hq, h⟩ := atDispatch_next h
  split at h
  · next i hd =>
    rcases exec_frame_flash (decode_frame_format hd) h with hf | ⟨e1, e2, e3, p, rfl⟩
    · exact .inl hf
    · exact .inr ⟨frame, rest, e1, e2, e3, p, hq, hd⟩
  · rw [consumerHalt_next h]; exact .inl rfl
  · rw [consumerHalt_next h]; exact .inl rfl

/-! ## Every step -/

theorem move_flash {m : Move} (h : move m s = .next t) :
    t.flash = s.flash ∨ (m = .serveFrame
      ∧ ∃ frame rest e1 e2 e3 p, s.seq = .hold (.dispatch frame rest)
        ∧ decode s.cfg .frame frame = .ok (.frameFinishWrite e1 e2 e3 p)) := by
  cases m with
  | engine => exact .inl (engineStep_flash h)
  | invoke => exact .inl (invoke_flash h)
  | serveFrame => exact (serveFrame_flash h).imp_right fun hf => ⟨rfl, hf⟩
  | consumerReturn =>
    obtain ⟨_, _, -, h⟩ := atDispatch_next h
    exact .inl (drainBanks_flash h)
  | consumerHalt => rw [consumerHalt_next h]; exact .inl rfl
  | busReset | busSetup | busOut | busInAck | reflect => exact .inl (busMove_flash rfl h)
  | restart => cases h; exact .inl rfl

/-- Settles O58: of all moves only CONSUMER's of a FINISH_WRITE frame can change the flash. -/
theorem onlyFinishWriteChangesFlash : Obligations.OnlyFinishWriteChangesFlash :=
  fun _ _ h hne => (move_flash (step_next h)).resolve_left hne

end Sys2Proof.Machine
end
section
/-! SUPPORT. The fail-stops (spec/60_exceptions.md R301, R302): the two ways in which CONSUMER takes one
on a frame it serves, beside the overflowing bank and CONSUMER's own halt. -/

namespace Sys2Proof.Machine

variable {s : State} {frame : Bytes} {rest : List Bank}

/-! ## The length (R301) -/

theorem serveFrame_of_wrongLength (hq : s.seq = .hold (.dispatch frame rest))
    (hlen : frame.length ≠ frameLen) : move .serveFrame s = .next (halt .malformedFrame s) := by
  have hd : decode s.cfg .frame frame = .error (.frameLength frame.length) := by
    rcases decodeFrame_cases s.cfg frame with ⟨op, e1, e2, e3, p, hp, rfl, -⟩ | ⟨-, hd⟩
    · exact absurd (frameBytes_length op e1 e2 e3 p hp) hlen
    · exact hd
  simp only [move, serveFrame, atDispatch, hq, hd]
  exact consumerHalt_of_dispatch hq nofun

/-! ## The opcode (R302) -/

/-- An opcode that CONSUMER does not answer is the ACK sentinel, or no command at all. -/
theorem decodeFrameFields_of_not_answered {c : Config} {op : Word} (hop : op ∉ c.op.answered)
    (e1 e2 e3 : Word) (p : Bytes) :
    decodeFrameFields c op e1 e2 e3 p = .ok (.frameAck e1 e2 e3 p)
      ∨ decodeFrameFields c op e1 e2 e3 p = .error (.unknownFrameOpcode op) := by
  simp only [FrameOpcodes.answered, List.mem_cons, List.not_mem_nil, or_false, not_or] at hop
  obtain ⟨h1, h2, h3, h4⟩ := hop
  rw [decodeFrameFields, if_neg h1, if_neg h2, if_neg h3, if_neg h4]
  exact ite_eq_or_eq ..

theorem serveFrame_of_not_answered {op e1 e2 e3 : Word} {p : Bytes} (hp : p.length = 48)
    (hq : s.seq = .hold (.dispatch (frameBytes op e1 e2 e3 p) rest))
    (hop : op ∉ s.cfg.op.answered) :
    move .serveFrame s = .next (halt .unknownOpcode s) := by
  have hhalt : consumerHalt .unknownOpcode s = .next (halt .unknownOpcode s) :=
    consumerHalt_of_dispatch hq nofun
  have hfields := decodeFrame_frameBytes s.cfg op e1 e2 e3 p hp
  rcases decodeFrameFields_of_not_answered hop e1 e2 e3 p with hd | hd
  · exact (serveFrame_of_decode hq (hfields.trans hd)).trans hhalt
  · simp only [move, serveFrame, atDispatch, hq, decode, hfields, hd]
    exact hhalt

/-! ## A good state -/

theorem Inv.frame_length (hi : Inv s) (hq : s.seq = .hold (.dispatch frame rest)) :
    frame.length = frameLen := by
  have hl := hi.locals
  rwa [localsOk, hq] at hl

/-- Settles O38: each of the four is `halt` on the state as it stands. -/
theorem failStopsHaltPrecisely : Obligations.FailStopsHaltPrecisely :=
  ⟨fun _ _ rest hc => drainBank_overflow hc rest,
    fun _ _ _ hq hlen => serveFrame_of_wrongLength hq hlen,
    fun _ _ _ _ _ _ _ hp hq hop => serveFrame_of_not_answered hp hq hop,
    fun _ _ _ _ hq hr => consumerHalt_of_dispatch hq hr,
    fun _ _ _ hi hq => hi.frame_length hq⟩

end Sys2Proof.Machine
end

section
/-! SUPPORT. The transitions of the link (spec/60_exceptions.md R321): each event that writes the
link-level registers, with the values it writes. -/

namespace Sys2Proof.Machine

theorem applyConfiguration_linkRegs (v : Byte) (s : State) :
    (applyConfiguration v s).linkRegs = ⟨s.cfg, if v = 0 then .addressed else .configured, v,
      s.devAddr, s.ep0.enabled, decide (v ≠ 0), decide (v ≠ 0)⟩ := by
  by_cases hv : v = 0
  · subst hv; rfl
  · rw [applyConfiguration_nonzero s hv]; simpa [State.linkRegs] using hv

/-- Settles O54: a step is a `LinkStep`, and each event writes what R321 says. -/
theorem linkTransitionsAreComplete : Obligations.LinkTransitionsAreComplete := by
  intro s t h
  cases step_linkStep h with
  | keeps h =>
    injection h with _ hl hc ha h0 h1 h2
    exact .inl ⟨hl, hc, ha, h0, h1, h2⟩
  | resetService hm hq hb h =>
    injection h with _ hl hc ha h0 h1 h2
    exact .inr (.inl ⟨⟨hm, hq, hb⟩, hl, hc, ha, h0, h1, h2⟩)
  | setAddress a hm hq hack h =>
    injection h with _ hl hc ha h0 h1 h2
    exact .inr (.inr (.inl ⟨a, ⟨hm, hq, hack⟩, ha, hl, hc, h0, h1, h2⟩))
  | setConfiguration rt v high wIndex wLength hm hq hr hi h =>
    rw [applyConfiguration_linkRegs] at h
    injection h with _ hl hc ha h0 h1 h2
    exact .inr (.inr (.inr (.inl
      ⟨v, ⟨hm, hq, hr, rt, high, wIndex, wLength, hi⟩, hc, hl, ha, h0, h1, h2⟩)))
  | restart hm ht => exact .inr (.inr (.inr (.inr ⟨hm, ht ▸ powerOn_restart _⟩)))

end Sys2Proof.Machine
end

section
/-! SUPPORT. The invariant of the good states under updates: what it reads, the updates of one
endpoint, and the ENGINE's way from one position to the next. -/

namespace Sys2Proof.Machine

variable {s t : State}

/-! ## What the invariant reads -/

/-- The part of a state that the invariant reads: not the accumulator, the buffers, the history, the
counters, the pending reset, BUS's bank order or the script. -/
def State.guarded (s : State) :=
  (s.cfg, s.flash, s.rxCnt, s.seq, s.link, s.curCfg, s.devAddr, s.ep0, s.ep1, s.ep2, s.setup)

theorem Inv.of_guarded (hi : Inv s) (h : t.guarded = s.guarded) : Inv t := by
  cases s; cases t; cases h
  exact { hi with
    link := { hi.link with }, setup := { hi.setup with }
    bank0 := { hi.bank0 with }, bank1 := { hi.bank1 with } }

/-- What the invariant reads of a bank of EP1. -/
def Endpoint.bank (e : Endpoint) (b : Bank) : Bool × Nat × Bytes × Req :=
  (e.bankFlag b, e.bankCount b, e.bankFifo b, e.bankReq b)

/-- A bank's clause reads that bank, and the position only while a clear is outstanding. -/
theorem BankOk.of_bank {b : Bank} (h : BankOk b s) (hbank : t.ep1.bank b = s.ep1.bank b)
    (hseq : s.ep1.bankReq b = .clr → waitsForBank b t.seq) : BankOk b t := by
  simp only [Endpoint.bank, Prod.mk.injEq] at hbank
  obtain ⟨hflag, hcount, hfifo, hreq⟩ := hbank
  constructor <;> simp only [hflag, hcount, hfifo, hreq]
  exacts [h.count_le, h.req_ne_set, h.clr_flag, hseq, h.whole]

theorem LinkOk.of_kinds (h : LinkOk s) (hlink : t.link = s.link) (hcfg : t.curCfg = s.curCfg)
    (haddr : t.devAddr = s.devAddr) (h0 : t.ep0.kind = s.ep0.kind) (h1 : t.ep1.kind = s.ep1.kind)
    (h2 : t.ep2.kind = s.ep2.kind) : LinkOk t := by
  simp only [Endpoint.kind, Prod.mk.injEq] at h0 h1 h2
  obtain ⟨hen0, hty0⟩ := h0
  obtain ⟨hen1, hty1⟩ := h1
  obtain ⟨hen2, hty2⟩ := h2
  constructor <;> simp only [hlink, hcfg, haddr, hen0, hen1, hen2, hty0, hty1, hty2]
  exacts [h.detached, h.unaddressed, h.unconfigured, h.configured, h.enables, h.both, h.type0,
    h.type1, h.type2]

/-! ## An update of the position, of EP0, EP2 and the latch -/

/-- What was received allows the position `q`: a full buffer and an outstanding clear of a bank only
at HP_RX_CLR, or fail-stopped. -/
structure ReceiveAllows (q : Seq) (s : State) : Prop where
  full : s.rxCnt = frameLen → (∃ b rest, q = .hold (.rxClr b rest)) ∨ ∃ r, q = .halted r
  bank : ∀ b, s.ep1.bankReq b = .clr → waitsForBank b q

theorem Inv.receiveAllows (hi : Inv s) : ReceiveAllows s.seq s :=
  ⟨hi.rxCnt_full, fun b => (hi.bankOk b).clr_seq⟩

theorem receiveAllows_halted (r : Reason) (s : State) : ReceiveAllows (.halted r) s :=
  ⟨fun _ => .inr ⟨r, rfl⟩, fun _ _ => trivial⟩

/-- The clauses that an update of the position, EP0, EP2 and the latch has to meet anew. -/
theorem Inv.update (hi : Inv s) {q : Seq} {e0 e2 : Endpoint} {p : Setup}
    (hrx : ReceiveAllows q s) (hk0 : e0.kind = s.ep0.kind) (hk2 : e2.kind = s.ep2.kind)
    (hf0 : e0.txFifo.length ≤ fifoDepth) (hf2 : e2.txFifo.length ≤ fifoDepth)
    (hsetup : SetupOk { s with seq := q, ep0 := e0, ep2 := e2, setup := p })
    (htx0 : ep0TxOk { s with seq := q, ep0 := e0, ep2 := e2, setup := p })
    (htx2 : ep2TxOk { s with seq := q, ep0 := e0, ep2 := e2, setup := p })
    (hloc : localsOk { s with seq := q, ep0 := e0, ep2 := e2, setup := p }) :
    Inv { s with seq := q, ep0 := e0, ep2 := e2, setup := p } where
  cfg := hi.cfg
  flash := hi.flash
  rxCnt_le := hi.rxCnt_le
  rxCnt_full := hrx.full
  ep0Fifo := hf0
  ep2Fifo := hf2
  link := hi.link.of_kinds rfl rfl rfl hk0 rfl hk2
  setup := hsetup
  bank0 := hi.bank0.of_bank rfl (hrx.bank .b0)
  bank1 := hi.bank1.of_bank rfl (hrx.bank .b1)
  ep0Tx := htx0
  ep2Tx := htx2
  locals := hloc

theorem Inv.withEp0 (hi : Inv s) {e : Endpoint} (hk : e.kind = s.ep0.kind)
    (hf : e.txFifo.length ≤ fifoDepth) (hsetup : SetupOk { s with ep0 := e })
    (htx : ep0TxOk { s with ep0 := e }) : Inv { s with ep0 := e } :=
  hi.update hi.receiveAllows hk rfl hf hi.ep2Fifo hsetup htx hi.ep2Tx hi.locals

theorem Inv.withEp2 (hi : Inv s) {e : Endpoint} (hk : e.kind = s.ep2.kind)
    (hf : e.txFifo.length ≤ fifoDepth) (htx : ep2TxOk { s with ep2 := e }) :
    Inv { s with ep2 := e } :=
  hi.update hi.receiveAllows rfl hk hi.ep0Fifo hf { hi.setup with } hi.ep0Tx htx hi.locals

theorem Inv.withEp1 (hi : Inv s) {e : Endpoint} (hk : e.kind = s.ep1.kind)
    (hbank : ∀ b, BankOk b { s with ep1 := e }) : Inv { s with ep1 := e } :=
  { hi with
    link := hi.link.of_kinds rfl rfl rfl rfl hk rfl
    setup := { hi.setup with }
    bank0 := hbank .b0
    bank1 := hbank .b1 }

/-- The fail-stop asks nothing of the state it stops in. -/
theorem Inv.halt (hi : Inv s) (r : Reason) : Inv (halt r s) := by
  have hsetup : SetupOk { s with seq := .halted r } :=
    { hi.setup with
      clr_seq := fun _ => trivial
      whole := fun _ _ h => absurd trivial h
      dir_flag := nofun
      seq_enabled := nofun
      dir_fresh := fun _ _ h => absurd trivial h
      dir_first := nofun }
  exact (hi.update (receiveAllows_halted r s) rfl rfl hi.ep0Fifo hi.ep2Fifo hsetup trivial trivial
    trivial).of_guarded rfl

/-! ## Where the ENGINE may go on from -/

/-- Nothing received is waited for: the ENGINE may go to any position but HP_DIR. -/
structure Settled (s : State) : Prop where
  count : s.rxCnt ≠ frameLen
  bankReq : ∀ b, s.ep1.bankReq b ≠ .clr
  setupReq : s.ep0.rxSetupReq = .none
  taken : ¬ setupTaken s.seq

theorem Settled.receiveAllows (h : Settled s) (q : Seq) : ReceiveAllows q s :=
  ⟨fun hc => absurd hc h.count, fun b hr => absurd hr (h.bankReq b)⟩

/-- A good state is settled where each clear that its position waits for is shown. -/
theorem Inv.settled (hi : Inv s) (hcount : s.rxCnt ≠ frameLen) (htaken : ¬ setupTaken s.seq)
    (hsetup : waitsForSetupClear s.seq → s.ep0.rxSetup = false)
    (hbank : ∀ b, waitsForBank b s.seq → s.ep1.bankFlag b = false) : Settled s where
  count := hcount
  taken := htaken
  bankReq b hr := by
    have hb := hi.bankOk b
    exact absurd (hb.clr_flag hr) (by simp [hbank b (hb.clr_seq hr)])
  setupReq := by
    cases hr : s.ep0.rxSetupReq with
    | none => rfl
    | set => exact absurd hr hi.setup.req_ne_set
    | clr => exact absurd (hi.setup.clr_flag hr) (by simp [hsetup (hi.setup.clr_seq hr)])

theorem Inv.settled_of_idle (hi : Inv s) (hq : s.seq = .idle) : Settled s :=
  hi.settled (fun hc => by simpa [hq] using hi.rxCnt_full hc) (by simp [hq, setupTaken])
    (by simp [hq, waitsForSetupClear]) (by simp [hq, waitsForBank])

theorem Inv.settled_of_dispatch (hi : Inv s) {frame : Bytes} {rest : List Bank}
    (hq : s.seq = .hold (.dispatch frame rest)) : Settled s :=
  hi.settled (fun hc => by simpa [hq] using hi.rxCnt_full hc) (by simp [hq, setupTaken])
    (by simp [hq, waitsForSetupClear]) (by simp [hq, waitsForBank])

theorem setupTaken_hold {h : Hold} : setupTaken (.hold h) ↔ h = .dir := by
  cases h <;> simp [setupTaken]

theorem waitsForSetupClear_hold {h : Hold} : waitsForSetupClear (.hold h) ↔ h = .setupClr := by
  cases h <;> simp [waitsForSetupClear]

theorem waitsForBank_hold {b : Bank} {h : Hold} :
    waitsForBank b (.hold h) ↔ ∃ rest, h = .rxClr b rest := by
  cases h <;> simp [waitsForBank]

/-- At a hold point whose condition is true, the clear it waited for is shown. -/
theorem Inv.settled_of_ready (hi : Inv s) {h : Hold} (hq : s.seq = .hold h)
    (hready : holdReady h s = true) (hdir : h ≠ .dir) (hcount : s.rxCnt ≠ frameLen) :
    Settled s := by
  refine hi.settled hcount (by rwa [hq, setupTaken_hold]) (fun hw => ?_) (fun b hw => ?_)
  · obtain rfl := waitsForSetupClear_hold.1 (hq ▸ hw)
    simpa [holdReady] using hready
  · obtain ⟨rest, rfl⟩ := waitsForBank_hold.1 (hq ▸ hw)
    simpa [holdReady] using hready

theorem Inv.rxCnt_ne_of_hold (hi : Inv s) {h : Hold} (hq : s.seq = .hold h)
    (hrx : ∀ b rest, h ≠ .rxClr b rest) : s.rxCnt ≠ frameLen := by
  intro hc
  rcases hi.rxCnt_full hc with ⟨b, rest, hq'⟩ | ⟨r, hq'⟩
  · exact hrx b rest (by simpa [hq] using hq')
  · simp [hq] at hq'

/-! ## The ENGINE goes to another position -/

theorem servesSetup_of_pastDirection {q : Seq} (h : pastDirection q) : servesSetup q := by
  unfold pastDirection at h
  split at h <;> trivial

/-- EP0 serves a request: it is enabled, and while no newer SETUP is flagged the direction of an IN
request is set. -/
structure Serves (s : State) : Prop where
  enabled : s.ep0.enabled = true
  dir : directionIn s.setup.bmRequestType = true → s.ep0.rxSetup = false → s.ep0.dir = true

theorem Inv.serves (hi : Inv s) (hq : pastDirection s.seq) : Serves s where
  enabled := hi.setup.seq_enabled (servesSetup_of_pastDirection hq)
  dir hin hs := hi.setup.dir_first hq hin (.inl hs)

/-- Past HP_DIR the SETUP side of a settled state fits every position, once the request served there
is past its direction handshake. -/
theorem SetupOk.relocate (h : SetupOk s) (hs : Settled s) {q : Seq} (hq : q ≠ .hold .dir)
    (hserves : servesSetup q → Serves s) : SetupOk { s with seq := q } :=
  { h with
    clr_seq := fun hr => by simp [hs.setupReq] at hr
    whole := fun hf hr _ => h.whole hf hr hs.taken
    dir_flag := fun hd => absurd hd hq
    seq_enabled := fun hx => (hserves hx).enabled
    dir_fresh := fun hf hr _ => h.dir_fresh hf hr hs.taken
    dir_first := fun hx hin hf =>
      (hserves (servesSetup_of_pastDirection hx)).dir hin
        (hf.resolve_right (by simp [hs.setupReq])) }

/-- An endpoint with its transmit side replaced. -/
def Endpoint.withTx (e : Endpoint) (fifo : Bytes) (trigger acked : Bool) (req : Req) : Endpoint :=
  { e with txFifo := fifo, txTrigger := trigger, txAcked := acked, txAckedReq := req }

section GoTo

variable {q : Seq} {fifo : Bytes} {trigger acked : Bool} {req : Req}

/-- From a settled state to `q`, with another transmit side of EP0. -/
theorem Inv.goToEp0 (hi : Inv s) (hs : Settled s) (hq : q ≠ .hold .dir)
    (hserves : servesSetup q → Serves s) (hf : fifo.length ≤ fifoDepth)
    (htx0 : ep0TxOk { s with seq := q, ep0 := s.ep0.withTx fifo trigger acked req })
    (htx2 : ep2TxOk { s with seq := q }) (hloc : localsOk { s with seq := q }) :
    Inv { s with seq := q, ep0 := s.ep0.withTx fifo trigger acked req } :=
  hi.update (hs.receiveAllows q) rfl rfl hf hi.ep2Fifo
    { hi.setup.relocate hs hq hserves with } htx0 htx2 hloc

/-- From a settled state to `q`, with another transmit side of EP2. -/
theorem Inv.goToEp2 (hi : Inv s) (hs : Settled s) (hq : q ≠ .hold .dir)
    (hserves : servesSetup q → Serves s) (hf : fifo.length ≤ fifoDepth)
    (htx0 : ep0TxOk { s with seq := q })
    (htx2 : ep2TxOk { s with seq := q, ep2 := s.ep2.withTx fifo trigger acked req })
    (hloc : localsOk { s with seq := q }) :
    Inv { s with seq := q, ep2 := s.ep2.withTx fifo trigger acked req } :=
  hi.update (hs.receiveAllows q) rfl rfl hi.ep0Fifo hf
    { hi.setup.relocate hs hq hserves with } htx0 htx2 hloc

end GoTo

/-- A settled state with nothing queued is good at Idle too. -/
theorem Inv.atIdle (hi : Inv s) (hs : Settled s) (h0 : s.ep0.txQuiet) (h2 : s.ep2.txQuiet) :
    Inv { s with seq := .idle } :=
  hi.goToEp0 hs nofun nofun hi.ep0Fifo h0 h2 trivial

end Sys2Proof.Machine
end

section
/-! SUPPORT. The ENGINE's stretches from a good state (spec/00_scope.md R12): each ends in a good
state or in a refusal, and none in a fault. A stretch past a hold point is one from Idle, where
nothing is queued or waited for. -/

namespace Sys2Proof.Machine

variable {s : State}

/-- What a move of a good state may answer: a good state, or a refusal. -/
def Sound : Result → Prop
  | .next t => Inv t
  | .fault _ => False
  | .refused _ => True

/-! ## Reception (spec/43_hid_framer.md R240 to R245) -/

theorem drained_bank_other (e : Endpoint) {b c : Bank} (hc : c ≠ b) (q : Bytes) (r : Req) :
    ((e.setBankFifo b q).setBankReq b r).bank c = e.bank c := by
  cases b <;> cases c <;> simp at hc <;> rfl

/-- The drained bank waits for its clear; the other one is as it was. -/
theorem bankOk_drained {b : Bank} {rest : List Bank} (hb : ∀ c, BankOk c s) (hs : Settled s)
    (hf : s.ep1.bankFlag b = true) (q : Bytes) (c : Bank) :
    BankOk c { s with
      ep1 := (s.ep1.setBankFifo b q).setBankReq b .clr, seq := .hold (.rxClr b rest) } := by
  by_cases hc : c = b
  · subst hc
    constructor <;> simp [hf, (hb c).count_le, waitsForBank]
  · have hreq := hs.bankReq c
    exact (hb c).of_bank (drained_bank_other s.ep1 hc q .clr) (fun hr => absurd hr hreq)

theorem drainBank_sound (hi : Inv { s with seq := .idle }) {b : Bank}
    (hf : s.ep1.bankFlag b = true) (rest : List Bank) : Sound (drainBank b rest s) := by
  unfold drainBank
  split
  · exact (hi.halt .malformedFrame).of_guarded rfl
  · next hfit =>
    have hs := hi.settled_of_idle rfl
    have hbank := bankOk_drained (b := b) (rest := rest) hi.bankOk hs hf
      (popBytes (s.ep1.bankCount b) (s.ep1.bankFifo b) s.freeCount).2.1
    exact
      { cfg := hi.cfg
        flash := hi.flash
        rxCnt_le := Nat.le_of_not_lt hfit
        rxCnt_full := fun _ => .inl ⟨b, rest, rfl⟩
        ep0Fifo := hi.ep0Fifo
        ep2Fifo := hi.ep2Fifo
        link := hi.link.of_kinds rfl rfl rfl rfl (by cases b <;> rfl) rfl
        setup := { hi.setup.relocate hs (q := .hold (.rxClr b rest)) nofun nofun with }
        bank0 := { hbank .b0 with }
        bank1 := { hbank .b1 with }
        ep0Tx := hi.ep0Tx
        ep2Tx := hi.ep2Tx
        locals := trivial }

theorem drainBanks_sound (hi : Inv { s with seq := .idle }) (l : List Bank) :
    Sound (drainBanks l s) := by
  rcases drainBanks_cases l s with h | ⟨b, rest, hf, h⟩ <;> rw [h]
  · exact hi.of_guarded rfl
  · exact drainBank_sound hi hf rest

theorem pollStep3_sound (hi : Inv { s with seq := .idle }) (v : Bool) :
    Sound (pollStep3 v s) := by
  unfold pollStep3
  split
  · exact drainBanks_sound hi _
  · exact hi.of_guarded rfl

theorem Inv.dispatchFrame (hi : Inv { s with seq := .idle, rxCnt := 0 }) (rest : List Bank) :
    Inv (dispatchFrame rest s) :=
  (hi.goToEp0 (hi.settled_of_idle rfl) (q := .hold (.dispatch s.rxBuf.toList rest)) nofun nofun
    hi.ep0Fifo hi.ep0Tx hi.ep2Tx (by simp [localsOk, frameLen])).of_guarded rfl

/-! ## Transmission (spec/41_usb_poll_control.md R190, spec/43_hid_framer.md R250) -/

theorem chunk_length_le (bytes : Bytes) (x : Tx) :
    ((bytes.drop x.off).take (chunkLen x)).length ≤ fifoDepth :=
  (List.length_take_le ..).trans (chunkLen_le x)

theorem sendChunk_sound (hi : Inv { s with seq := .idle }) (hserves : Serves s) {x : Tx}
    (hx : txInRange s.cfg x) : Sound (sendChunk x s) := by
  cases hs : s.ep0.rxSetup with
  | true => rw [sendChunk_abort hs]; exact pollStep3_sound hi true
  | false =>
    obtain ⟨hfifo, htrigger, hacked, hreq⟩ : s.ep0.txQuiet := hi.ep0Tx
    rw [sendChunk_eq hs ⟨hfifo, htrigger⟩ hx]
    refine (hi.goToEp0 (hi.settled_of_idle rfl) (q := .hold (.ctlTx x)) (trigger := true)
      (acked := s.ep0.txAcked) (req := s.ep0.txAckedReq) nofun
      (fun _ => ⟨hserves.enabled, hserves.dir⟩) (chunk_length_le _ x) ?_ hi.ep2Tx hx).of_guarded rfl
    simp [ep0TxOk, Endpoint.withTx, Endpoint.txWaiting, hs, hacked, hreq]

theorem zlpStatus_sound (hi : Inv { s with seq := .idle }) (hserves : Serves s) (after : AfterZlp) :
    Sound (zlpStatus after s) := by
  obtain ⟨hfifo, -, hacked, hreq⟩ : s.ep0.txQuiet := hi.ep0Tx
  refine (hi.goToEp0 (hi.settled_of_idle rfl) (q := .hold (.zlpTx after)) (trigger := true)
    (acked := s.ep0.txAcked) (req := s.ep0.txAckedReq) nofun
    (fun _ => ⟨hserves.enabled, hserves.dir⟩) hi.ep0Fifo ?_ hi.ep2Tx trivial).of_guarded rfl
  simp [ep0TxOk, Endpoint.withTx, hfifo, hacked, hreq]

theorem frameReturn_inv (hi : Inv { s with seq := .idle }) {c : Caller} (hc : callerOk c) :
    Inv (frameReturn c s) := by
  cases c with
  | loop => exact hi
  | consumer frame rest =>
    exact (hi.goToEp0 (hi.settled_of_idle rfl) (q := .hold (.dispatch frame rest)) nofun nofun
      hi.ep0Fifo hi.ep0Tx hi.ep2Tx hc).of_guarded rfl

theorem sendFrameLoop_sound (hi : Inv { s with seq := .idle }) {x : Tx} {c : Caller}
    (hx : txInRange s.cfg x) (hc : callerOk c) : Sound (sendFrameLoop x c s) := by
  by_cases hrem : x.rem = 0
  · rw [sendFrameLoop_done hrem]; exact frameReturn_inv hi hc
  · obtain ⟨hfifo, htrigger, hacked, hreq⟩ : s.ep2.txQuiet := hi.ep2Tx
    rw [sendFrameLoop_eq hrem ⟨hfifo, htrigger⟩ hx]
    refine (hi.goToEp2 (hi.settled_of_idle rfl) (q := .hold (.frmTx x c)) (trigger := true)
      (acked := s.ep2.txAcked) (req := s.ep2.txAckedReq) nofun nofun (chunk_length_le _ x)
      hi.ep0Tx ?_ ⟨hx, hc⟩).of_guarded rfl
    simp [ep2TxOk, Endpoint.withTx, Endpoint.txWaiting, hacked, hreq]

theorem startSendFrame_sound (hi : Inv { s with seq := .idle }) {c : Caller} (hc : callerOk c)
    (bytes : Bytes) : Sound (startSendFrame bytes c s) :=
  sendFrameLoop_sound hi (Nat.le_of_eq (Nat.zero_add _)) hc

/-! ## The link-level registers -/

/-- The link-level registers, and whether EP1 and EP2 are enabled as what, are read by no other
clause. -/
theorem Inv.withLink (hi : Inv s) {link : Link} {cfg : Byte} {addr : BitVec 7} {en1 en2 : Bool}
    {ty1 ty2 : EpType}
    (h : LinkOk { s with
      link := link, curCfg := cfg, devAddr := addr
      ep1 := { s.ep1 with enabled := en1, eptype := ty1 }
      ep2 := { s.ep2 with enabled := en2, eptype := ty2 } }) :
    Inv { s with
      link := link, curCfg := cfg, devAddr := addr
      ep1 := { s.ep1 with enabled := en1, eptype := ty1 }
      ep2 := { s.ep2 with enabled := en2, eptype := ty2 } } :=
  { hi with
    link := h, setup := { hi.setup with }
    bank0 := { hi.bank0 with }, bank1 := { hi.bank1 with } }

theorem linkOk_programAddress (h : LinkOk s) (he : s.ep0.enabled = true) (a : BitVec 7) :
    LinkOk (programAddress a s) :=
  { h with
    detached := by rw [programAddress_link]; split <;> simp [he]
    unaddressed := by rw [programAddress_link]; split <;> simp_all
    unconfigured := by rw [programAddress_link]; split <;> nofun
    configured := by rw [programAddress_link]; split <;> nofun }

theorem Inv.programAddress (hi : Inv s) (he : s.ep0.enabled = true) (a : BitVec 7) :
    Inv (programAddress a s) :=
  hi.withLink (linkOk_programAddress hi.link he a)

theorem linkOk_applyConfiguration (h : LinkOk s) (he : s.ep0.enabled = true) (v : Byte) :
    LinkOk (applyConfiguration v s) := by
  by_cases hv : v = 0
  · subst hv
    rw [applyConfiguration_zero]
    constructor <;> simp [he, h.type0]
  · rw [applyConfiguration_nonzero s hv]
    constructor <;> simp [he, show v ≠ 0#8 from hv, h.type0]

theorem Inv.applyConfiguration (hi : Inv s) (he : s.ep0.enabled = true) (v : Byte) :
    Inv (applyConfiguration v s) := by
  have hlink := linkOk_applyConfiguration hi.link he v
  by_cases hv : v = 0
  · subst hv; exact hi.withLink hlink
  · rw [applyConfiguration_nonzero s hv] at hlink ⊢; exact hi.withLink hlink

theorem Inv.busResetService (hi : Inv s) (hq : s.seq = .idle) : Inv (busResetService s) where
  cfg := hi.cfg
  flash := hi.flash
  rxCnt_le := hi.rxCnt_le
  rxCnt_full := hi.rxCnt_full
  ep0Fifo := Nat.zero_le _
  ep2Fifo := Nat.zero_le _
  link := by constructor <;> simp [Endpoint.reset]
  setup := by constructor <;> simp [hq, Endpoint.reset, servesSetup, pastDirection]
  bank0 := (bankOk_reset .b0).of_bank rfl nofun
  bank1 := (bankOk_reset .b1).of_bank rfl nofun
  ep0Tx := by rw [ep0TxOk, busResetService_seq, hq]; exact txQuiet_reset
  ep2Tx := by rw [ep2TxOk, busResetService_seq, hq]; exact txQuiet_reset
  locals := by rw [localsOk, busResetService_seq, hq]; trivial

end Sys2Proof.Machine
end

section
/-! SUPPORT. The ENGINE's turn and the invocations from a good state: POLL's first stretch, the
requests, what follows each hold point (spec/41_usb_poll_control.md R180 to R192, spec/10_state.md
R51). -/

namespace Sys2Proof.Machine

variable {s : State}

/-! ## A POLL starts (R180 to R186) -/

/-- The SETUP side at HP_DIR, where the packet has left the FIFO and its flag is still set. -/
theorem setupOk_of_dir (hq : s.seq = .hold .dir) (hreq : s.ep0.rxSetupReq = .none)
    (hflag : s.ep0.rxSetup = true) (hen : s.ep0.enabled = true) (hdir : s.ep0.dirReq ≠ .clr) :
    SetupOk s := by
  constructor <;> simp [hq, hreq, hflag, hen, hdir, setupTaken, pastDirection]

/-- The SETUP side at HP_SETUPCLR, the clear of its flag outstanding. -/
theorem setupOk_of_setupClr (hq : s.seq = .hold .setupClr) (hreq : s.ep0.rxSetupReq = .clr)
    (hflag : s.ep0.rxSetup = true) (hen : s.ep0.enabled = true) (hdirReq : s.ep0.dirReq ≠ .clr)
    (hdir : directionIn s.setup.bmRequestType = true → s.ep0.dir = true) : SetupOk s := by
  constructor <;> simp [hq, hreq, hflag, hen, hdirReq, waitsForSetupClear]
  exact fun _ => hdir

theorem setupRequestHandler_inv (hi : Inv { s with seq := .idle }) (hflag : s.ep0.rxSetup = true) :
    Inv (setupRequestHandler s) := by
  have hs := hi.settled_of_idle rfl
  have hen : s.ep0.enabled = true := hi.setup.flag_enabled hflag
  obtain ⟨p, q, k, hl⟩ := latchSetup_eq s
  simp only [setupRequestHandler, hl]
  split
  · exact (hi.update (q := .hold .dir) (e0 := { s.ep0 with rxFifo0 := q, dirReq := .set })
      (hs.receiveAllows _) rfl rfl hi.ep0Fifo hi.ep2Fifo
      (setupOk_of_dir rfl hs.setupReq hflag hen nofun) hi.ep0Tx hi.ep2Tx trivial).of_guarded rfl
  · next hout =>
    exact (hi.update (q := .hold .setupClr) (e0 := { s.ep0 with rxFifo0 := q, rxSetupReq := .clr })
      (hs.receiveAllows _) rfl rfl hi.ep0Fifo hi.ep2Fifo
      (setupOk_of_setupClr rfl rfl hflag hen hi.setup.dirReq_ne_clr fun hin => absurd hin hout)
      hi.ep0Tx hi.ep2Tx trivial).of_guarded rfl

theorem pollStep2_sound (hi : Inv { s with seq := .idle }) (v : Bool) :
    Sound (pollStep2 v s) := by
  cases hs : s.ep0.rxSetup with
  | true => rw [pollStep2_of_setup hs]; exact setupRequestHandler_inv hi hs
  | false => rw [pollStep2_of_noSetup hs]; exact pollStep3_sound hi v

theorem execPoll_sound (hi : Inv s) : Sound (execPoll s) := by
  by_cases hq : s.seq = .idle
  · have hidle : Inv { s with seq := .idle } := by rw [← hq]; exact hi
    show Sound (exec .poll s)
    cases hb : s.busResetPending with
    | true =>
      rw [exec_poll_of_busReset hq hb]
      exact pollStep2_sound (hidle.busResetService rfl) true
    | false => rw [exec_poll_of_noBusReset hq hb]; exact pollStep2_sound hidle false
  · rw [execPoll_busy hq]; trivial

/-! ## A request (spec/42_usb_requests.md) -/

section Request

variable (hi : Inv { s with seq := .idle }) (hserves : Serves s)
include hi hserves

theorem sendControl_sound {src : Src} {n : Nat} (hn : n ≤ (srcBytes s.cfg src).length) :
    Sound (sendControl src n s) :=
  sendChunk_sound hi hserves (by rwa [txInRange, Nat.zero_add])

/-- A string of a well-formed configuration is not empty, and its first byte is its length. -/
theorem execGetDescriptorString_sound (rt index : Byte) (wIndex wLength : Half) :
    Sound (exec (.getDescriptorString rt index wIndex wLength) s) := by
  cases hstr : s.cfg.rom.strings[index.toNat]? with
  | none =>
    rw [exec_getDescriptorString_past (List.getElem?_eq_none_iff.1 hstr)]
    exact pollStep3_sound hi true
  | some string =>
    obtain ⟨hstrings, -⟩ := s.cfg.wf_iff.1 hi.cfg
    obtain ⟨hne, hlen⟩ := hstrings string (List.mem_of_getElem? hstr)
    rw [exec_getDescriptorString_of_some hstr hne]
    refine sendControl_sound hi hserves ?_
    rw [srcBytes_romString hstr, hlen]
    exact Nat.min_le_left ..

theorem exec_request_sound {i : Instr} (hf : i.format = .setup) : Sound (exec i s) := by
  cases i with
  | crcSeed | crcLoad | crcFeed | crcRaw | crcFinal | poll | sendFrame => cases hf
  | frameDeviceInfo | frameSetupWrite | frameFinishWrite | frameHardwareReset | frameAck => cases hf
  | getDescriptorUnknownType | getStatusOther | clearFeature | setFeature | syncFrame
  | setDescriptor | unknownRequest => exact pollStep3_sound hi true
  | getDescriptorDevice | getDescriptorConfiguration | getDescriptorHidReport =>
    exact sendControl_sound hi hserves (Nat.min_le_left ..)
  | getDescriptorString => exact execGetDescriptorString_sound hi hserves _ _ _ _
  | getStatusDevice | getStatusInterface | getStatusEndpoint =>
    exact sendControl_sound (src := .bytes [0, 0]) (n := 2) hi hserves (Nat.le_refl 2)
  | getInterface => exact sendControl_sound (src := .bytes [0]) (n := 1) hi hserves (Nat.le_refl 1)
  | getConfiguration =>
    exact sendControl_sound (src := .bytes [s.curCfg]) (n := 1) hi hserves (Nat.le_refl 1)
  | setInterface => exact zlpStatus_sound hi hserves .nothing
  | setAddress _ a => exact zlpStatus_sound hi hserves (.setAddress a)
  | setConfiguration _ v =>
    have happlied : Inv (applyConfiguration v { s with seq := .idle }) :=
      hi.applyConfiguration hserves.enabled v
    refine zlpStatus_sound (s := applyConfiguration v s) ?_ ?_ .nothing
    · exact happlied.of_guarded (by unfold applyConfiguration; split <;> rfl)
    · exact ⟨by simpa using hserves.enabled, by simpa using hserves.dir⟩

end Request

/-! ## The ENGINE goes on from a hold point (spec/10_state.md R51) -/

theorem Inv.ep0Tx_at (hi : Inv s) {q : Seq} (hq : s.seq = q) :
    ep0TxOk { s with seq := q } := by subst hq; exact hi.ep0Tx

theorem Inv.ep2Tx_at (hi : Inv s) {q : Seq} (hq : s.seq = q) :
    ep2TxOk { s with seq := q } := by subst hq; exact hi.ep2Tx

theorem Inv.locals_at (hi : Inv s) {q : Seq} (hq : s.seq = q) :
    localsOk { s with seq := q } := by subst hq; exact hi.locals

theorem txQuiet_of_clearing {e : Endpoint} (h : e.txClearing) (ha : e.txAcked = false) :
    e.txQuiet := by
  obtain ⟨hfifo, htrigger, ⟨hacked, -⟩ | ⟨hacked, hreq⟩⟩ := h
  · simp [ha] at hacked
  · exact ⟨hfifo, htrigger, hacked, hreq⟩

/-- A packet that was taken leaves the FIFO empty and untriggered. -/
theorem taken_of_waiting {e : Endpoint} (h : e.txWaiting) (ha : e.txAcked = true) :
    e.txFifo = [] ∧ e.txTrigger = false := by
  obtain ⟨-, ⟨-, hacked⟩ | ⟨hfifo, htrigger, -⟩⟩ := h
  · simp [ha] at hacked
  · exact ⟨hfifo, htrigger⟩

section Resume

variable (hi : Inv s)
include hi

theorem resume_dir_sound (hq : s.seq = .hold .dir) (hready : s.ep0.dir = true) :
    Sound (resume .dir s) := by
  have hflag := hi.setup.dir_flag hq
  have hrx : ReceiveAllows (.hold .setupClr) s :=
    ⟨fun hc => absurd hc (hi.rxCnt_ne_of_hold hq nofun),
      fun b hr => by simpa [hq, waitsForBank] using (hi.bankOk b).clr_seq hr⟩
  exact (hi.update (q := .hold .setupClr) (e0 := { s.ep0 with rxSetupReq := .clr }) hrx rfl rfl
    hi.ep0Fifo hi.ep2Fifo
    (setupOk_of_setupClr rfl rfl hflag (hi.setup.flag_enabled hflag) hi.setup.dirReq_ne_clr
      fun _ => hready)
    (hi.ep0Tx_at hq) (hi.ep2Tx_at hq) trivial).of_guarded rfl

theorem resume_setupClr_sound (hq : s.seq = .hold .setupClr) (hs : Settled s) :
    Sound (resume .setupClr s) :=
  exec_request_sound (hi.atIdle hs (hi.ep0Tx_at hq) (hi.ep2Tx_at hq))
    (hi.serves (by rw [hq]; trivial)) (decodeSetup_format ..)

theorem resume_ctlTx_sound {x : Tx} (hq : s.seq = .hold (.ctlTx x)) (hs : Settled s)
    (hready : (s.ep0.rxSetup || s.ep0.txAcked) = true) : Sound (resume (.ctlTx x) s) := by
  have htx0 : if s.ep0.rxSetup = true then s.ep0.txQuiet else s.ep0.txWaiting := hi.ep0Tx_at hq
  simp only [resume, afterCtlTx]
  cases hf : s.ep0.rxSetup with
  | true =>
    rw [if_pos hf] at htx0
    exact pollStep3_sound (hi.atIdle hs htx0 (hi.ep2Tx_at hq)) true
  | false =>
    have hacked : s.ep0.txAcked = true := by simpa [hf] using hready
    obtain ⟨hfifo, htrigger⟩ := taken_of_waiting (by simpa [hf] using htx0) hacked
    have htx2 : s.ep2.txQuiet := hi.ep2Tx_at hq
    have hx : txInRange s.cfg x := hi.locals_at hq
    exact (hi.goToEp0 hs (q := .hold (.ctlAckClr x)) (acked := s.ep0.txAcked) (req := .clr) nofun
      (fun _ => hi.serves (by rw [hq]; trivial)) hi.ep0Fifo
      ⟨hfifo, htrigger, .inl ⟨hacked, rfl⟩⟩ htx2 hx).of_guarded rfl

theorem resume_ctlAckClr_sound {x : Tx} (hq : s.seq = .hold (.ctlAckClr x)) (hs : Settled s)
    (hready : s.ep0.txAcked = false) : Sound (resume (.ctlAckClr x) s) := by
  have hidle := hi.atIdle hs (txQuiet_of_clearing (hi.ep0Tx_at hq) hready) (hi.ep2Tx_at hq)
  simp only [resume, afterCtlAckClr]
  split
  · exact pollStep3_sound hidle true
  · exact sendChunk_sound hidle (hi.serves (by rw [hq]; trivial))
      (txInRange_advance (hi.locals_at hq))

theorem resume_zlpTx_sound {after : AfterZlp} (hq : s.seq = .hold (.zlpTx after)) (hs : Settled s)
    (hready : s.ep0.txAcked = true) : Sound (resume (.zlpTx after) s) := by
  obtain ⟨hfifo, -, htrigger⟩ : s.ep0.txFifo = [] ∧ s.ep0.txAckedReq = .none
    ∧ (s.ep0.txAcked = true → s.ep0.txTrigger = false) := hi.ep0Tx_at hq
  have htx2 : s.ep2.txQuiet := hi.ep2Tx_at hq
  exact (hi.goToEp0 hs (q := .hold (.zlpAckClr after)) (acked := s.ep0.txAcked) (req := .clr) nofun
    (fun _ => hi.serves (by rw [hq]; trivial)) hi.ep0Fifo
    ⟨hfifo, htrigger hready, .inl ⟨hready, rfl⟩⟩ htx2 trivial).of_guarded rfl

theorem resume_zlpAckClr_sound {after : AfterZlp} (hq : s.seq = .hold (.zlpAckClr after))
    (hs : Settled s) (hready : s.ep0.txAcked = false) : Sound (resume (.zlpAckClr after) s) := by
  have hidle := hi.atIdle hs (txQuiet_of_clearing (hi.ep0Tx_at hq) hready) (hi.ep2Tx_at hq)
  cases after with
  | nothing => exact pollStep3_sound hidle true
  | setAddress a =>
    have hserves := hi.serves (by rw [hq]; trivial)
    exact pollStep3_sound (s := programAddress a s) (hidle.programAddress hserves.enabled a) true

theorem Inv.withEmptyBuffer : Inv { s with rxCnt := 0 } :=
  { hi with
    rxCnt_le := Nat.zero_le _, rxCnt_full := nofun
    link := { hi.link with }, setup := { hi.setup with }
    bank0 := { hi.bank0 with }, bank1 := { hi.bank1 with } }

theorem Inv.atIdle_of_bankCleared {b : Bank} {rest : List Bank}
    (hq : s.seq = .hold (.rxClr b rest)) (hready : holdReady (.rxClr b rest) s = true)
    (hc : s.rxCnt ≠ frameLen) : Inv { s with seq := .idle } :=
  hi.atIdle (hi.settled_of_ready hq hready nofun hc) (hi.ep0Tx_at hq) (hi.ep2Tx_at hq)

theorem resume_rxClr_sound {b : Bank} {rest : List Bank} (hq : s.seq = .hold (.rxClr b rest))
    (hready : holdReady (.rxClr b rest) s = true) : Sound (resume (.rxClr b rest) s) := by
  simp only [resume, afterBankCleared]
  split
  · exact Inv.dispatchFrame
      (hi.withEmptyBuffer.atIdle_of_bankCleared (s := { s with rxCnt := 0 }) hq hready nofun) rest
  · next hc => exact drainBanks_sound (hi.atIdle_of_bankCleared hq hready hc) rest

theorem resume_frmTx_sound {x : Tx} {c : Caller} (hq : s.seq = .hold (.frmTx x c)) (hs : Settled s)
    (hready : s.ep2.txAcked = true) : Sound (resume (.frmTx x c) s) := by
  obtain ⟨hfifo, htrigger⟩ := taken_of_waiting (hi.ep2Tx_at hq) hready
  have htx0 : s.ep0.txQuiet := hi.ep0Tx_at hq
  have hx : txInRange s.cfg x ∧ callerOk c := hi.locals_at hq
  exact (hi.goToEp2 hs (q := .hold (.frmAckClr x c)) (acked := s.ep2.txAcked) (req := .clr) nofun
    nofun hi.ep2Fifo htx0 ⟨hfifo, htrigger, .inl ⟨hready, rfl⟩⟩ hx).of_guarded rfl

theorem resume_frmAckClr_sound {x : Tx} {c : Caller} (hq : s.seq = .hold (.frmAckClr x c))
    (hs : Settled s) (hready : s.ep2.txAcked = false) : Sound (resume (.frmAckClr x c) s) := by
  obtain ⟨hx, hc⟩ : txInRange s.cfg x ∧ callerOk c := hi.locals_at hq
  exact sendFrameLoop_sound
    (hi.atIdle hs (hi.ep0Tx_at hq) (txQuiet_of_clearing (hi.ep2Tx_at hq) hready))
    (txInRange_advance hx) hc

theorem resume_sound {h : Hold} (hq : s.seq = .hold h) (hready : holdReady h s = true) :
    Sound (resume h s) := by
  have hs (hdir : h ≠ .dir) (hrx : ∀ b rest, h ≠ .rxClr b rest) : Settled s :=
    hi.settled_of_ready hq hready hdir (hi.rxCnt_ne_of_hold hq hrx)
  cases h with
  | dir => exact resume_dir_sound hi hq hready
  | setupClr => exact resume_setupClr_sound hi hq (hs nofun nofun)
  | ctlTx => exact resume_ctlTx_sound hi hq (hs nofun nofun) hready
  | ctlAckClr =>
    exact resume_ctlAckClr_sound hi hq (hs nofun nofun) (by simpa [holdReady] using hready)
  | zlpTx => exact resume_zlpTx_sound hi hq (hs nofun nofun) hready
  | zlpAckClr =>
    exact resume_zlpAckClr_sound hi hq (hs nofun nofun) (by simpa [holdReady] using hready)
  | rxClr => exact resume_rxClr_sound hi hq hready
  | dispatch => exact hi
  | frmTx => exact resume_frmTx_sound hi hq (hs nofun nofun) hready
  | frmAckClr =>
    exact resume_frmAckClr_sound hi hq (hs nofun nofun) (by simpa [holdReady] using hready)

theorem engineStep_sound : Sound (engineStep s) := by
  unfold engineStep
  split
  · exact hi
  · exact hi
  · next h hq =>
    split
    · next hready => exact resume_sound hi hq hready
    · show Inv (failedTest h s)
      rcases failedTest_cases h s with ht | ht | ht <;> rw [ht]
      · exact hi
      · exact hi.of_guarded rfl
      · exact hi.halt .handshakeStall

end Resume

/-! ## CONSUMER and the invocations -/

theorem atDispatch_sound {k : Bytes → List Bank → Result}
    (hk : ∀ frame rest, s.seq = .hold (.dispatch frame rest) → Sound (k frame rest)) :
    Sound (atDispatch s k) := by
  unfold atDispatch
  split
  · next frame rest hq => exact hk frame rest hq
  · trivial

section Consumer

variable (hi : Inv s)
include hi

theorem Inv.atIdle_of_dispatch {frame : Bytes} {rest : List Bank}
    (hq : s.seq = .hold (.dispatch frame rest)) : Inv { s with seq := .idle } :=
  hi.atIdle (hi.settled_of_dispatch hq) (hi.ep0Tx_at hq) (hi.ep2Tx_at hq)

theorem consumerHalt_sound (r : Reason) : Sound (consumerHalt r s) :=
  atDispatch_sound fun _ _ _ => by
    cases r with
    | malformedFrame => exact hi.halt .malformedFrame
    | unknownOpcode => exact hi.halt .unknownOpcode
    | handshakeStall => trivial

theorem replyAck_sound (e1 e2 e3 : Word) (p : Bytes) : Sound (replyAck e1 e2 e3 p s) :=
  atDispatch_sound fun frame rest hq =>
    startSendFrame_sound (hi.atIdle_of_dispatch hq) (c := .consumer frame rest)
      (hi.frame_length hq) _

theorem Inv.finishPage (addr : Word) (p : Bytes) : Inv (finishPage addr p s) :=
  { hi with
    flash := Memory.wf_writeBytes hi.flash _ _
    link := { hi.link with }, setup := { hi.setup with }
    bank0 := { hi.bank0 with }, bank1 := { hi.bank1 with } }

theorem exec_frame_sound {i : Instr} (hf : i.format = .frame) : Sound (exec i s) := by
  cases i with
  | crcSeed | crcLoad | crcFeed | crcRaw | crcFinal | poll | sendFrame => cases hf
  | frameDeviceInfo | frameHardwareReset => exact replyAck_sound hi _ _ _ _
  | frameSetupWrite e1 e2 e3 p =>
    obtain ⟨staging, k, hs⟩ := stagePayload_eq_withStorage e1 p s
    rw [exec, execFrameSetupWrite, hs]
    exact replyAck_sound (s := withStorage staging s.flash k s) (hi.of_guarded rfl) e1 e2 e3 p
  | frameFinishWrite e1 e2 e3 p => exact replyAck_sound (hi.finishPage e1 p) e1 e2 e3 p
  | frameAck => exact consumerHalt_sound hi .unknownOpcode
  | _ => cases hf

theorem serveFrame_sound : Sound (serveFrame s) :=
  atDispatch_sound fun frame rest hq => by
    split
    · next i hd => exact exec_frame_sound hi (decode_frame_format hd)
    · exact consumerHalt_sound hi .unknownOpcode
    · exact consumerHalt_sound hi .malformedFrame

theorem consumerReturn_sound : Sound (consumerReturn s) :=
  atDispatch_sound fun _ rest hq => drainBanks_sound (hi.atIdle_of_dispatch hq) rest

theorem execSendFrame_sound (bytes : Bytes) : Sound (execSendFrame bytes s) := by
  unfold execSendFrame
  split
  · next hq =>
    exact startSendFrame_sound (by rw [← hq]; exact hi) (c := .loop) trivial bytes
  · next frame rest hq =>
    exact startSendFrame_sound (hi.atIdle_of_dispatch hq) (c := .consumer frame rest)
      (hi.frame_length hq) bytes
  · trivial

theorem invoke_sound (call : Bytes) : Sound (invoke call s) := by
  unfold invoke
  split
  · next i hd =>
    rcases decode_opsel_cases hd with ⟨rfl, -⟩ | ⟨rfl, -⟩ | ⟨rfl, -⟩ | ⟨rfl, -⟩ | ⟨v, rfl⟩
      | ⟨b, rfl⟩ | ⟨b, rfl⟩
    · exact execPoll_sound hi
    · exact hi.of_guarded rfl
    · exact hi.of_guarded rfl
    · exact hi.of_guarded rfl
    · exact hi.of_guarded rfl
    · exact hi.of_guarded rfl
    · exact execSendFrame_sound hi b
  · trivial

end Consumer

end Sys2Proof.Machine
end

section
/-! SUPPORT. The moves of BUS and WATCHDOG from a good state (spec/44_environment.md R270 to R286),
and every step. -/

namespace Sys2Proof.Machine

variable {s t : State}

/-! ## The transmit sides by phase -/

/-- What a position asks of the transmit side of an endpoint. -/
inductive TxPhase where
  | any
  | quiet
  | waiting
  | status
  | clearing

/-- The transmit side is as its phase asks; a status reply has no bytes. -/
def TxPhase.holds (p : TxPhase) (e : Endpoint) : Prop :=
  match p with
  | .any => True
  | .quiet => e.txQuiet
  | .waiting => e.txWaiting
  | .status => e.txFifo = [] ∧ e.txAckedReq = .none ∧ (e.txAcked = true → e.txTrigger = false)
  | .clearing => e.txClearing

/-- EP0's phase at a position; a flagged SETUP has withdrawn the packet of a data stage. -/
def ep0Phase (setupFlagged : Bool) : Seq → TxPhase
  | .halted _ => .any
  | .hold (.ctlTx _) => if setupFlagged = true then .quiet else .waiting
  | .hold (.ctlAckClr _) => .clearing
  | .hold (.zlpTx _) => .status
  | .hold (.zlpAckClr _) => .clearing
  | _ => .quiet

/-- EP2's phase at a position. -/
def ep2Phase : Seq → TxPhase
  | .halted _ => .any
  | .hold (.frmTx _ _) => .waiting
  | .hold (.frmAckClr _ _) => .clearing
  | _ => .quiet

theorem ep0TxOk_iff : ep0TxOk s ↔ (ep0Phase s.ep0.rxSetup s.seq).holds s.ep0 := by
  unfold ep0TxOk
  cases s.seq with
  | idle | halted => exact Iff.rfl
  | hold h =>
    cases h with
    | ctlTx => simp only [ep0Phase]; split <;> exact Iff.rfl
    | dir | setupClr | ctlAckClr | zlpTx | zlpAckClr | rxClr | dispatch | frmTx | frmAckClr =>
      exact Iff.rfl

theorem ep2TxOk_iff : ep2TxOk s ↔ (ep2Phase s.seq).holds s.ep2 := by
  unfold ep2TxOk
  cases s.seq with
  | idle | halted => exact Iff.rfl
  | hold h => cases h <;> exact Iff.rfl

variable {p : TxPhase} {e : Endpoint}

/-- A queued packet is taken only where the ENGINE waits for that. -/
theorem TxPhase.holds_taken (h : p.holds e) (ht : e.txTrigger = true)
    (hr : e.txAckedReq = .none) : p.holds e.taken := by
  cases p with
  | any => trivial
  | quiet => obtain ⟨-, hq, -⟩ := h; simp [ht] at hq
  | waiting => exact ⟨hr, .inr ⟨rfl, rfl, rfl⟩⟩
  | status => exact ⟨rfl, hr, fun _ => rfl⟩
  | clearing => obtain ⟨-, hq, -⟩ := h; simp [ht] at hq

/-- The acknowledgment is shown clear only where that was requested. -/
theorem TxPhase.holds_ackShown (h : p.holds e) {v : Bool}
    (hv : e.txAckedReq = if v then .set else .clr) :
    p.holds { e with txAcked := v, txAckedReq := .none } := by
  have hr : e.txAckedReq ≠ .none := by rw [hv]; cases v <;> nofun
  cases p with
  | any => trivial
  | quiet => obtain ⟨-, -, -, hn⟩ := h; exact absurd hn hr
  | waiting => exact absurd h.1 hr
  | status => obtain ⟨-, hn, -⟩ := h; exact absurd hn hr
  | clearing =>
    obtain ⟨hfifo, htrigger, ⟨-, hclr⟩ | ⟨-, hn⟩⟩ := h
    · cases v with
      | false => exact ⟨hfifo, htrigger, .inr ⟨rfl, rfl⟩⟩
      | true => cases hclr.symm.trans hv
    · exact absurd hn hr

/-- A SETUP withdraws what EP0 had queued (R273), which fits every phase but the wait for a packet
of the data stage to be taken. -/
theorem TxPhase.holds_setupArrives (hp : p ≠ .waiting) (packet : Bytes) :
    p.holds (e.setupArrives packet) := by
  cases p with
  | any => trivial
  | quiet => exact ⟨rfl, rfl, rfl, rfl⟩
  | waiting => exact absurd rfl hp
  | status => exact ⟨rfl, rfl, nofun⟩
  | clearing => exact ⟨rfl, rfl, .inr ⟨rfl, rfl⟩⟩

theorem ep0Phase_ne_waiting (q : Seq) : ep0Phase true q ≠ .waiting := by
  cases q with
  | idle | halted => nofun
  | hold h => cases h <;> nofun

/-- Where the ENGINE waits for the SETUP flag's clear, EP0's phase does not read the flag. -/
theorem ep0Phase_of_waitsForSetupClear {q : Seq} (h : waitsForSetupClear q) (v w : Bool) :
    ep0Phase v q = ep0Phase w q := by
  unfold waitsForSetupClear at h
  split at h
  · rfl
  · rfl
  · cases h

/-! ## The banks -/

theorem fillBank_bank_other (e : Endpoint) {b c : Bank} (hc : c ≠ b) (d : Bytes) :
    (e.fillBank b d).bank c = e.bank c := by
  cases b <;> cases c <;> simp at hc <;> rfl

theorem shown_bank_other (e : Endpoint) {b c : Bank} (hc : c ≠ b) (v : Bool) (r : Req) :
    ((e.setBankFlag b v).setBankReq b r).bank c = e.bank c := by
  cases b <;> cases c <;> simp at hc <;> rfl

/-- A bank with nothing pending and no write outstanding. -/
theorem bankOk_of_empty {b : Bank} (hcount : s.ep1.bankCount b ≤ fifoDepth)
    (hflag : s.ep1.bankFlag b = false) (hreq : s.ep1.bankReq b = .none) : BankOk b s := by
  constructor <;> simp [hcount, hflag, hreq]

/-! ## BUS -/

/-- A move whose precondition is false does not exist. -/
theorem sound_of_precondition {c : Prop} [Decidable c] {r : Result} {refusal : Refusal}
    (h : c → Sound r) : Sound (if c then r else .refused refusal) := by
  split
  · next hc => exact h hc
  · trivial

section Good

variable (hi : Inv s)
include hi

theorem busSetup_inv {packet : Bytes} (ha : busSetupAllowed packet s = true) :
    Inv { s with ep0 := s.ep0.setupArrives packet } := by
  obtain ⟨hlen, hen, -, hreq⟩ := busSetupAllowed_iff.1 ha
  have hsetup : SetupOk { s with ep0 := s.ep0.setupArrives packet } :=
    { hi.setup with
      clr_flag := fun _ => rfl
      whole := fun _ _ _ => hlen
      dir_flag := fun _ => rfl
      flag_enabled := fun _ => hen
      dirReq_ne_clr := nofun
      dir_fresh := fun _ _ _ => ⟨rfl, rfl⟩
      dir_first := fun _ _ h =>
        absurd (h.resolve_left nofun) (by simp [Endpoint.setupArrives, hreq]) }
  exact hi.withEp0 rfl (Nat.zero_le _) hsetup
    (ep0TxOk_iff.2 (TxPhase.holds_setupArrives (ep0Phase_ne_waiting s.seq) packet))

theorem busInAck_inv {n : TxEp} (ha : busInAckAllowed n s = true) (ev : Event) :
    Inv (setTxEndpoint n (txEndpoint n s).taken (emit ev s)) := by
  obtain ⟨-, ht, -, hreq⟩ := busInAckAllowed_iff.1 ha
  cases n with
  | ep0 =>
    exact (hi.withEp0 (e := s.ep0.taken) rfl (Nat.zero_le _) { hi.setup with }
      (ep0TxOk_iff.2 (TxPhase.holds_taken (ep0TxOk_iff.1 hi.ep0Tx) ht hreq))).of_guarded rfl
  | ep2 =>
    exact (hi.withEp2 (e := s.ep2.taken) rfl (Nat.zero_le _)
      (ep2TxOk_iff.2 (TxPhase.holds_taken (ep2TxOk_iff.1 hi.ep2Tx) ht hreq))).of_guarded rfl

theorem busOut_inv {b : Bank} {d : Bytes} (ha : busOutAllowed b d s = true) :
    Inv { s with ep1 := s.ep1.fillBank b d } := by
  obtain ⟨hlen, -, -, hreq, -⟩ := busOutAllowed_iff.1 ha
  refine hi.withEp1 (fillBank_kind ..) fun c => ?_
  by_cases hc : c = b
  · subst hc
    constructor <;> simp [fillBank_bankReq, hreq, fifoDepth, hlen]
  · exact (hi.bankOk c).of_bank (fillBank_bank_other s.ep1 hc d) (hi.bankOk c).clr_seq

theorem showFlag_ep0Dir_inv {v : Bool} (hv : s.ep0.dirReq = if v then .set else .clr) :
    Inv (showFlag .ep0Dir v s) := by
  cases v with
  | false => exact absurd hv hi.setup.dirReq_ne_clr
  | true =>
    have hsetup : SetupOk { s with ep0 := { s.ep0 with dir := true, dirReq := .none } } :=
      { hi.setup with
        dirReq_ne_clr := nofun
        dir_fresh := fun hf hr ht => by
          obtain ⟨-, hn⟩ := hi.setup.dir_fresh hf hr ht
          cases hn.symm.trans hv
        dir_first := fun _ _ _ => rfl }
    exact hi.withEp0 rfl hi.ep0Fifo hsetup hi.ep0Tx

theorem showFlag_ep0RxSetup_inv {v : Bool} (hv : s.ep0.rxSetupReq = if v then .set else .clr) :
    Inv (showFlag .ep0RxSetup v s) := by
  cases v with
  | true => exact absurd hv hi.setup.req_ne_set
  | false =>
    have hw := hi.setup.clr_seq hv
    have hsetup : SetupOk { s with ep0 := { s.ep0 with rxSetup := false, rxSetupReq := .none } } :=
      { hi.setup with
        req_ne_set := nofun
        clr_flag := nofun
        clr_seq := nofun
        whole := nofun
        dir_flag := fun hq => by rw [show s.seq = _ from hq] at hw; cases hw
        flag_enabled := nofun
        dir_fresh := nofun
        dir_first := fun hp hin _ => hi.setup.dir_first hp hin (.inr hv) }
    refine hi.withEp0 rfl hi.ep0Fifo hsetup (ep0TxOk_iff.2 ?_)
    have htx := ep0TxOk_iff.1 hi.ep0Tx
    rw [ep0Phase_of_waitsForSetupClear hw s.ep0.rxSetup false] at htx
    exact htx

theorem showFlag_ep1RxBank_inv {b : Bank} {v : Bool}
    (hv : s.ep1.bankReq b = if v then .set else .clr) : Inv (showFlag (.ep1RxBank b) v s) := by
  cases v with
  | true => exact absurd hv (hi.bankOk b).req_ne_set
  | false =>
    refine hi.withEp1 (by cases b <;> rfl) fun c => ?_
    by_cases hc : c = b
    · subst hc
      exact bankOk_of_empty (by cases c; exacts [hi.bank0.count_le, hi.bank1.count_le])
        (by cases c <;> rfl) (by cases c <;> rfl)
    · exact (hi.bankOk c).of_bank (shown_bank_other s.ep1 hc false .none) (hi.bankOk c).clr_seq

theorem showFlag_inv {f : Flag} {v : Bool} (hv : flagReq f s = if v then .set else .clr) :
    Inv (showFlag f v s) := by
  cases f with
  | ep0Dir => exact showFlag_ep0Dir_inv hi hv
  | ep0RxSetup => exact showFlag_ep0RxSetup_inv hi hv
  | ep0TxAcked =>
    exact hi.withEp0 rfl hi.ep0Fifo { hi.setup with }
      (ep0TxOk_iff.2 (TxPhase.holds_ackShown (ep0TxOk_iff.1 hi.ep0Tx) hv))
  | ep2TxAcked =>
    exact hi.withEp2 rfl hi.ep2Fifo
      (ep2TxOk_iff.2 (TxPhase.holds_ackShown (ep2TxOk_iff.1 hi.ep2Tx) hv))
  | ep1RxBank b => exact showFlag_ep1RxBank_inv hi hv

theorem reflect_sound (f : Flag) : Sound (reflect f s) := by
  unfold reflect
  split
  · trivial
  · next hr => exact showFlag_inv hi (v := true) hr
  · next hr => exact showFlag_inv hi (v := false) hr

/-! ## WATCHDOG -/

/-- A restart gives the reset values, the endpoint types free, and keeps the parameters and the
flash. -/
theorem Inv.restart : Inv (restart s) :=
  { resetMeetsInvariant with
    cfg := hi.cfg
    flash := hi.flash
    link := { linkOk_reset with type0 := nofun, type1 := nofun, type2 := nofun }
    setup := { setupOk_reset with dir_first := nofun }
    bank0 := { bankOk_reset .b0 with }
    bank1 := { bankOk_reset .b1 with } }

/-! ## Every step -/

theorem move_sound (m : Move) : Sound (move m s) := by
  cases m with
  | engine => exact engineStep_sound hi
  | invoke call => exact invoke_sound hi call
  | serveFrame => exact serveFrame_sound hi
  | consumerReturn => exact consumerReturn_sound hi
  | consumerHalt r => exact consumerHalt_sound hi r
  | busReset => exact hi.of_guarded rfl
  | busSetup packet => exact sound_of_precondition fun ha => busSetup_inv hi ha
  | busOut b d => exact sound_of_precondition fun ha => (busOut_inv hi ha).of_guarded rfl
  | busInAck n => exact sound_of_precondition fun ha => busInAck_inv hi ha _
  | reflect f => exact reflect_sound hi f
  | restart => exact hi.restart

theorem step_sound : Sound (step s) := by
  rw [step_of_wf hi.cfg]
  exact move_sound (s := { s with script := s.script.tail }) (hi.of_guarded rfl) _

end Good

/-- Settles O52: a step is one agent's move, and each move of a good state is sound. -/
theorem stepKeepsTheInvariant : Obligations.StepKeepsTheInvariant := by
  intro s t hi h
  have hsound := step_sound hi
  rwa [h] at hsound

/-- Settles O53: a sound move answers no fault. -/
theorem goodStatesNeverFault : Obligations.GoodStatesNeverFault := by
  intro s e hi h
  have hsound := step_sound hi
  rwa [h] at hsound

end Sys2Proof.Machine
end

section
/-! SUPPORT. The state after a restart (spec/70_reset_and_hazards.md R341, R342). -/

namespace Sys2Proof.Machine

variable {s : State}

/-- Settles O1: the values are those of the reset state, and a restart writes none of the elements
it keeps. -/
theorem restartGivesPowerOn : Obligations.RestartGivesPowerOn :=
  ⟨by constructor <;> rfl,
    fun s => ⟨restart s, rfl, powerOn_restart s, rfl, rfl, rfl, rfl⟩⟩

theorem PowerOn.rxSetup (h : PowerOn s) : s.ep0.rxSetup = false := by rw [h.ep0]; rfl

theorem PowerOn.ep0_disabled (h : PowerOn s) : s.ep0.enabled = false := by rw [h.ep0]; rfl

theorem PowerOn.ep1_disabled (h : PowerOn s) : s.ep1.enabled = false := by rw [h.ep1]; rfl

theorem PowerOn.ep2_disabled (h : PowerOn s) : s.ep2.enabled = false := by rw [h.ep2]; rfl

theorem PowerOn.ep1Pending (h : PowerOn s) : ep1Pending s = false := by
  rw [Machine.ep1Pending, h.ep1]; rfl

theorem PowerOn.flagReq (h : PowerOn s) (f : Flag) : flagReq f s = .none := by
  cases f with
  | ep0Dir | ep0RxSetup | ep0TxAcked => rw [Machine.flagReq, h.ep0]; rfl
  | ep2TxAcked => rw [Machine.flagReq, h.ep2]; rfl
  | ep1RxBank b => rw [Machine.flagReq, h.ep1]; cases b <;> rfl

/-- Every endpoint is disabled and no write is outstanding, so BUS can only reset. -/
theorem PowerOn.busMove_refused (h : PowerOn s) {m : Move} (hm : isBusMove m = true)
    (hr : m ≠ .busReset) : move m s = .refused .noSuchBusMove := by
  cases m with
  | busReset => exact absurd rfl hr
  | busSetup p => exact if_neg fun ha => by simp [busSetupAllowed_iff, h.ep0_disabled] at ha
  | busOut b d => exact if_neg fun ha => by simp [busOutAllowed_iff, h.ep1_disabled] at ha
  | busInAck n =>
    refine if_neg fun ha => ?_
    cases n <;> simp [busInAckAllowed_iff, h.ep0_disabled, h.ep2_disabled] at ha
  | reflect f => rw [move_reflect_eq, if_pos (h.flagReq f)]
  | engine | invoke | serveFrame | consumerReturn | consumerHalt | restart => cases hm

/-- Settles O3: POLL's three tests find nothing, and BUS's preconditions are false. -/
theorem restartStateIsQuiet : Obligations.RestartStateIsQuiet := by
  refine fun s h => ⟨?_, fun m => h.busMove_refused, rfl⟩
  rw [exec_poll_of_noReset_noSetup h.seq h.busResetPending h.rxSetup, pollStep3_quiet h.ep1Pending,
    pollReturn_of_idle h.seq]

end Sys2Proof.Machine
end

section
/-! SUPPORT. What the effect of a request depends on (spec/30_encoding.md R113 to R120, R129): two
packets that one code selects alike, and that agree on the fields its rule reads. -/

namespace Sys2Proof.Machine

variable {s : State} {p q : Setup}

/-- Two tables with the same codes select related meanings where the entries that `k` can select are
related. -/
theorem selectFirst_related {α β : Type} [DecidableEq α] {R : β → β → Prop} {k : α} {d d' : β}
    {l l' : List (α × β)}
    (hl : List.Forall₂ (fun a b => a.1 = b.1 ∧ (k = a.1 → R a.2 b.2)) l l') (hd : R d d') :
    R (selectFirst k d l) (selectFirst k d' l') := by
  induction hl with
  | nil => exact hd
  | @cons a b l l' hab _ ih =>
    obtain ⟨hcode, hmeaning⟩ := hab
    by_cases hk : k = a.1
    · simpa [selectFirst, hk, ← hcode] using hmeaning hk
    · simpa [selectFirst, hk, ← hcode] using ih

/-- Two requests have the same effect from `s`. -/
def SameEffect (s : State) (i j : Instr) : Prop := exec i s = exec j s

theorem decodeGetStatus_of_out (hd : p.bmRequestType.getLsbD 7 = false) :
    decodeGetStatus p = statusOtherOf p :=
  decodeGetStatus_other (by rw [getStatusQualifies, hd, Bool.false_and])

/-- GET_STATUS reads the direction bit and, for an IN request, the recipient (R119). -/
theorem sameEffect_getStatus (hdir : p.bmRequestType.getLsbD 7 = q.bmRequestType.getLsbD 7)
    (hrec : p.bmRequestType.getLsbD 7 = true →
      p.bmRequestType.extractLsb' 0 5 = q.bmRequestType.extractLsb' 0 5) :
    SameEffect s (decodeGetStatus p) (decodeGetStatus q) := by
  cases hd : p.bmRequestType.getLsbD 7 with
  | false =>
    have hd' := hdir.symm.trans hd
    rw [decodeGetStatus_of_out hd, decodeGetStatus_of_out hd']
    rfl
  | true =>
    rw [decodeGetStatus_of_in hd, decodeGetStatus_of_in (hdir.symm.trans hd), ← hrec hd]
    exact selectFirst_related (.cons ⟨rfl, fun _ => rfl⟩ <| .cons ⟨rfl, fun _ => rfl⟩ <|
      .cons ⟨rfl, fun _ => rfl⟩ .nil) rfl

/-- GET_DESCRIPTOR reads the type, for a known one the length, and for a string the index (R115,
R116). -/
theorem sameEffect_getDescriptor (htype : highByte p.wValue = highByte q.wValue)
    (hlen : highByte p.wValue ∈ s.cfg.dt.toList → p.wLength = q.wLength)
    (hindex : highByte p.wValue = s.cfg.dt.string → lowByte p.wValue = lowByte q.wValue) :
    SameEffect s (decodeGetDescriptor s.cfg p) (decodeGetDescriptor s.cfg q) := by
  have hknown {type : Byte} (hm : type ∈ s.cfg.dt.toList) (hk : highByte p.wValue = type) :
      p.wLength = q.wLength := hlen (hk ▸ hm)
  rw [decodeGetDescriptor_eq_selectFirst, decodeGetDescriptor_eq_selectFirst, ← htype]
  refine selectFirst_related (.cons ⟨rfl, fun hk => ?device⟩ <| .cons ⟨rfl, fun hk => ?config⟩ <|
    .cons ⟨rfl, fun hk => ?string⟩ <| .cons ⟨rfl, fun hk => ?hidReport⟩ .nil) rfl
  case string =>
    have hl := hknown (by simp [DescriptorTypes.toList]) hk
    simp only [SameEffect, hindex hk, hl]
    rfl
  all_goals
    have hl := hknown (by simp [DescriptorTypes.toList]) hk
    simp only [SameEffect, hl]
    rfl

/-- Settles O9: past GET_STATUS the requests are selected alike, and each rule ignores what the two
packets need not share. -/
theorem onlySelectingFieldsMatter : Obligations.OnlySelectingFieldsMatter := by
  intro s p q hb h
  show SameEffect s (decodeSetup s.cfg p) (decodeSetup s.cfg q)
  by_cases hs : p.bRequest = s.cfg.req.getStatus
  · rw [if_pos hs] at h
    obtain ⟨hdir, hrec⟩ := h
    rw [decodeSetup, decodeSetup, if_pos hs, if_pos (hb ▸ hs)]
    exact sameEffect_getStatus hdir hrec
  · rw [if_neg hs] at h
    obtain ⟨hdesc, haddr, hcfg⟩ := h
    have htail (r : Setup) (hr : r.bRequest = p.bRequest) : decodeSetup s.cfg r
        = selectFirst p.bRequest (unknownRequestOf r) (requestRules s.cfg r).tail :=
      hr ▸ if_neg (hr ▸ hs)
    rw [htail p rfl, htail q hb.symm]
    refine selectFirst_related (.cons ⟨rfl, fun _ => rfl⟩ <| .cons ⟨rfl, fun _ => rfl⟩ <|
      .cons ⟨rfl, fun hk => ?setAddress⟩ <| .cons ⟨rfl, fun hk => ?getDescriptor⟩ <|
      .cons ⟨rfl, fun _ => rfl⟩ <| .cons ⟨rfl, fun _ => rfl⟩ <|
      .cons ⟨rfl, fun hk => ?setConfiguration⟩ <| .cons ⟨rfl, fun _ => rfl⟩ <|
      .cons ⟨rfl, fun _ => rfl⟩ <| .cons ⟨rfl, fun _ => rfl⟩ .nil) rfl
    case setAddress => simp only [SameEffect, haddr hk]; rfl
    case getDescriptor =>
      obtain ⟨htype, hlen, hindex⟩ := hdesc hk
      exact sameEffect_getDescriptor htype hlen hindex
    case setConfiguration =>
      have hvalue : lowByte p.wValue = lowByte q.wValue := hcfg hk
      simp only [SameEffect, hvalue]; rfl

end Sys2Proof.Machine
end

section
/-! SUPPORT. The loads of EP0's FIFO (spec/70_reset_and_hazards.md R350): only SendControl makes
one, and it waits then at HP_CTL_TX with the direction as it was. -/

namespace Sys2Proof.Machine

variable {s t : State}

/-- What becomes of EP0's FIFO: it is kept, emptied, or loaded by SendControl, which leaves the
direction and finds no SETUP flagged. -/
inductive Ep0Load (s t : State) : Prop
  | keeps (h : t.ep0.txFifo = s.ep0.txFifo)
  | empties (h : t.ep0.txFifo = [])
  | loads (x : Tx) (hq : t.seq = .hold (.ctlTx x)) (hs : t.ep0.rxSetup = false)
      (hd : t.ep0.dir = s.ep0.dir)

/-! ## The ENGINE's stretches -/

theorem drainBanks_ep0 {l : List Bank} (h : drainBanks l s = .next t) : t.ep0 = s.ep0 := by
  rcases drainBanks_cases l s with hd | ⟨b, rest, -, hd⟩ <;> rw [hd] at h
  · cases h; rfl
  · rcases drainBank_next h with ⟨-, rfl⟩ | ⟨-, rfl⟩ <;> rfl

theorem pollStep3_ep0 {v : Bool} (h : pollStep3 v s = .next t) : t.ep0 = s.ep0 := by
  unfold pollStep3 at h
  split at h
  · exact drainBanks_ep0 h
  · cases h; rfl

theorem pollStep3_ep0Load {v : Bool} (h : pollStep3 v s = .next t) : Ep0Load s t :=
  .keeps (by rw [pollStep3_ep0 h])

theorem sendChunk_ep0Load {x : Tx} (h : sendChunk x s = .next t) : Ep0Load s t := by
  rcases sendChunk_next h with ⟨-, h⟩ | ⟨hs, -, -, chunk, -, rfl⟩
  · exact pollStep3_ep0Load h
  · exact .loads x rfl hs rfl

theorem sendFrameLoop_ep0 {x : Tx} {c : Caller} (h : sendFrameLoop x c s = .next t) :
    t.ep0 = s.ep0 := by
  rcases sendFrameLoop_next h with ⟨-, rfl⟩ | ⟨-, -, -, chunk, -, rfl⟩
  · cases c <;> rfl
  · rfl

theorem sendFrameLoop_ep0Load {x : Tx} {c : Caller} (h : sendFrameLoop x c s = .next t) :
    Ep0Load s t := .keeps (by rw [sendFrameLoop_ep0 h])

theorem setupRequestHandler_txFifo (s : State) :
    (setupRequestHandler s).ep0.txFifo = s.ep0.txFifo := by
  obtain ⟨p, q, k, hl⟩ := latchSetup_eq s
  simp only [setupRequestHandler, hl]
  split <;> rfl

theorem pollStep2_txFifo {v : Bool} (h : pollStep2 v s = .next t) :
    t.ep0.txFifo = s.ep0.txFifo := by
  unfold pollStep2 at h
  split at h
  · cases h; exact setupRequestHandler_txFifo s
  · rw [pollStep3_ep0 h]

theorem execPoll_ep0Load (h : execPoll s = .next t) : Ep0Load s t := by
  unfold execPoll at h
  split at h
  · split at h
    · exact .empties (pollStep2_txFifo h)
    · exact .keeps (pollStep2_txFifo h)
  · cases h

theorem exec_request_ep0Load {i : Instr} (hi : i.format = .setup) (h : exec i s = .next t) :
    Ep0Load s t := by
  rcases exec_request_cases hi s with he | ⟨src, n, he⟩ | he | ⟨a, he⟩ | ⟨_, v, _, _, _, rfl⟩
  · exact pollStep3_ep0Load (he.symm.trans h)
  · exact sendChunk_ep0Load (he.symm.trans h)
  · cases he.symm.trans h
  · cases he.symm.trans h; exact .keeps rfl
  · cases h; exact .keeps (by simp)

theorem resume_ep0Load {h : Hold} (hr : resume h s = .next t) : Ep0Load s t := by
  cases h with
  | dir | zlpTx | dispatch | frmTx => cases hr; exact .keeps rfl
  | setupClr => exact exec_request_ep0Load (decodeSetup_format ..) hr
  | ctlTx x =>
    simp only [resume, afterCtlTx] at hr
    split at hr
    · exact pollStep3_ep0Load hr
    · cases hr; exact .keeps rfl
  | ctlAckClr x =>
    simp only [resume, afterCtlAckClr] at hr
    split at hr
    · exact pollStep3_ep0Load hr
    · exact sendChunk_ep0Load hr
  | zlpAckClr after =>
    have h0 : t.ep0 = (finishRequest after s).ep0 := pollStep3_ep0 hr
    refine .keeps ?_
    cases after <;> rw [h0] <;> rfl
  | rxClr b rest =>
    simp only [resume, afterBankCleared] at hr
    split at hr
    · cases hr; exact .keeps rfl
    · exact .keeps (by rw [drainBanks_ep0 hr])
  | frmAckClr x c => exact sendFrameLoop_ep0Load hr

theorem engineStep_ep0Load (h : engineStep s = .next t) : Ep0Load s t := by
  unfold engineStep at h
  split at h
  · cases h; exact .keeps rfl
  · cases h; exact .keeps rfl
  · next hp _ =>
    split at h
    · exact resume_ep0Load h
    · cases h
      rcases failedTest_cases hp s with ht | ht | ht <;> rw [ht] <;> exact .keeps rfl

/-! ## The other agents -/

theorem invoke_ep0Load {call : Bytes} (h : move (.invoke call) s = .next t) : Ep0Load s t := by
  rcases invoke_cases h with ⟨-, h⟩ | ⟨bytes, h⟩ | ⟨_, _, rfl⟩
  · exact execPoll_ep0Load h
  · rcases execSendFrame_next h with ⟨-, h⟩ | ⟨_, _, -, h⟩ <;> exact sendFrameLoop_ep0Load h
  · exact .keeps rfl

theorem serveFrame_ep0Load (h : serveFrame s = .next t) : Ep0Load s t := by
  obtain ⟨_, _, -, ⟨r, rfl⟩ | ⟨_, staging, flash, k, h⟩⟩ := serveFrame_cases h
  · exact .keeps rfl
  · exact .keeps (by rw [sendFrameLoop_ep0 (s := withStorage staging flash k s) h]; rfl)

theorem busMove_ep0Load {m : Move} (hm : isBusMove m = true) (h : move m s = .next t) :
    Ep0Load s t := by
  cases m with
  | busReset => cases h; exact .keeps rfl
  | busSetup p => obtain ⟨-, rfl⟩ := busSetup_next h; exact .empties rfl
  | busOut b d => obtain ⟨-, rfl⟩ := busOut_next h; exact .keeps rfl
  | busInAck n =>
    obtain ⟨-, rfl⟩ := busInAck_next h
    cases n with
    | ep0 => exact .empties rfl
    | ep2 => exact .keeps rfl
  | reflect f => rcases reflect_next h with ⟨-, rfl⟩ | ⟨-, rfl⟩ <;> cases f <;> exact .keeps rfl
  | engine | invoke | serveFrame | consumerReturn | consumerHalt | restart => cases hm

theorem move_ep0Load {m : Move} (h : move m s = .next t) : Ep0Load s t := by
  cases m with
  | engine => exact engineStep_ep0Load h
  | invoke => exact invoke_ep0Load h
  | serveFrame => exact serveFrame_ep0Load h
  | consumerReturn =>
    obtain ⟨_, _, -, h⟩ := atDispatch_next h
    exact .keeps (by rw [drainBanks_ep0 h])
  | consumerHalt => rw [consumerHalt_next h]; exact .keeps rfl
  | busReset | busSetup | busOut | busInAck | reflect => exact busMove_ep0Load rfl h
  | restart => cases h; exact .empties rfl

/-- Settles O59: the load leaves the direction as it was, and the invariant of the state it leads to
says that at HP_CTL_TX it is set for an IN request. -/
theorem directionIsSetBeforeData : Obligations.DirectionIsSetBeforeData := by
  intro s t hi h hempty hloaded hin
  have ht : Inv t := stepKeepsTheInvariant s t hi h
  cases move_ep0Load (step_next h) with
  | keeps hk => exact absurd (hk.trans hempty) hloaded
  | empties he => exact absurd he hloaded
  | loads x hq hs hd =>
    have hdir : t.ep0.dir = true := ht.setup.dir_first (by rw [hq]; trivial) hin (.inl hs)
    exact hd.symm.trans hdir

end Sys2Proof.Machine
end

section
/-! SUPPORT. The stalls without a SPIN_CAP (spec/70_reset_and_hazards.md R357, R364,
spec/43_hid_framer.md R253): at a hold point whose condition is false only BUS changes an endpoint,
and BUS answers neither a withdrawn reply nor a disabled endpoint. -/

namespace Sys2Proof.Machine

variable {s t : State}

/-- Without a cap, a move that finds the ENGINE waiting for BUS is BUS's, or it leaves the position
and the transmitting endpoints. -/
theorem move_of_waiting {h : Hold} {m : Move} (hq : s.seq = .hold h) (hr : holdReady h s = false)
    (hd : ∀ frame rest, h ≠ .dispatch frame rest) (hcap : s.cfg.spinCap = none) (hm : m ≠ .restart)
    (hmove : move m s = .next t) :
    isBusMove m = true ∨ (t.seq = s.seq ∧ t.ep0 = s.ep0 ∧ t.ep2 = s.ep2) := by
  have hseq : ∀ frame rest, s.seq ≠ .hold (.dispatch frame rest) := by simpa [hq] using hd
  cases m with
  | engine =>
    rw [move_engine_uncapped hq hr hcap] at hmove
    cases hmove
    exact .inr ⟨rfl, rfl, rfl⟩
  | invoke call =>
    obtain ⟨_, _, rfl⟩ := invoke_of_busy (by simp [hq]) hseq hmove
    exact .inr ⟨rfl, rfl, rfl⟩
  | serveFrame | consumerReturn | consumerHalt =>
    obtain ⟨frame, rest, hq', -⟩ := atDispatch_next hmove
    exact absurd hq' (hseq frame rest)
  | busReset | busSetup | busOut | busInAck | reflect => exact .inl rfl
  | restart => exact absurd rfl hm

/-- From `e` to `e'` BUS has taken no packet and shown no acknowledgment. -/
structure Untaken (e e' : Endpoint) : Prop where
  enabled : e'.enabled = e.enabled
  trigger : e.txTrigger = false → e'.txTrigger = false
  acked : e'.txAcked = false
  req : e'.txAckedReq = .none

section Untaken

variable {n : TxEp} (hacked : (txEndpoint n s).txAcked = false)
  (hreq : (txEndpoint n s).txAckedReq = .none)
include hacked hreq

theorem untaken_of_eq (h : txEndpoint n t = txEndpoint n s) :
    Untaken (txEndpoint n s) (txEndpoint n t) := by
  rw [h]
  exact ⟨rfl, id, hacked, hreq⟩

/-- Showing another flag touches nothing of the transmit side. -/
theorem showFlag_untaken {f : Flag} (hf : f ≠ ackFlag n) (v : Bool) :
    Untaken (txEndpoint n s) (txEndpoint n (showFlag f v s)) := by
  cases n with
  | ep0 =>
    cases f with
    | ep0TxAcked => exact absurd rfl hf
    | ep0Dir | ep0RxSetup | ep2TxAcked | ep1RxBank => exact ⟨rfl, id, hacked, hreq⟩
  | ep2 =>
    cases f with
    | ep2TxAcked => exact absurd rfl hf
    | ep0Dir | ep0RxSetup | ep0TxAcked | ep1RxBank => exact ⟨rfl, id, hacked, hreq⟩

/-- BUS takes a packet only from an enabled endpoint with one triggered; a SETUP withdraws EP0's. -/
theorem busMove_untaken {m : Move} (hm : isBusMove m = true)
    (hidle : (txEndpoint n s).enabled = false ∨ (txEndpoint n s).txTrigger = false)
    (h : move m s = .next t) : Untaken (txEndpoint n s) (txEndpoint n t) := by
  cases m with
  | busReset => cases h; exact untaken_of_eq hacked hreq (by cases n <;> rfl)
  | busSetup p =>
    obtain ⟨-, rfl⟩ := busSetup_next h
    cases n with
    | ep0 => exact ⟨rfl, fun _ => rfl, rfl, rfl⟩
    | ep2 => exact ⟨rfl, id, hacked, hreq⟩
  | busOut b d =>
    obtain ⟨-, rfl⟩ := busOut_next h
    exact untaken_of_eq hacked hreq (by cases n <;> rfl)
  | busInAck k =>
    obtain ⟨ha, rfl⟩ := busInAck_next h
    obtain ⟨hen, htrigger, -⟩ := busInAckAllowed_iff.1 ha
    have hk : k ≠ n := by rintro rfl; simp [hen, htrigger] at hidle
    exact untaken_of_eq hacked hreq (by cases n <;> cases k <;> simp at hk <;> rfl)
  | reflect f =>
    have hf : f ≠ ackFlag n := by
      rintro rfl
      rw [move_reflect_eq, if_pos ((flagReq_ackFlag n s).trans hreq)] at h
      cases h
    rcases reflect_next h with ⟨-, rfl⟩ | ⟨-, rfl⟩ <;> exact showFlag_untaken hacked hreq hf _
  | engine | invoke | serveFrame | consumerReturn | consumerHalt | restart => cases hm

/-- Where the ENGINE waits for a packet that BUS does not take, a step leaves it waiting. -/
theorem step_untaken {h : Hold} (hq : s.seq = .hold h) (hr : holdReady h s = false)
    (hd : ∀ frame rest, h ≠ .dispatch frame rest)
    (hidle : (txEndpoint n s).enabled = false ∨ (txEndpoint n s).txTrigger = false)
    (hcap : s.cfg.spinCap = none) (hrestart : ¬ restartNext s) (hstep : step s = .next t) :
    t.seq = .hold h ∧ Untaken (txEndpoint n s) (txEndpoint n t) := by
  have hmove := step_next hstep
  have hsame : txEndpoint n { s with script := s.script.tail } = txEndpoint n s := by
    cases n <;> rfl
  rcases move_of_waiting (s := { s with script := s.script.tail }) hq
    ((holdReady_of_endpoints rfl rfl rfl).trans hr) hd hcap hrestart hmove with hm | ⟨ht, h0, h2⟩
  · rw [← hsame] at hacked hreq hidle ⊢
    exact ⟨(busMove_seq hm hmove).trans hq, busMove_untaken hacked hreq hm hidle hmove⟩
  · exact ⟨ht.trans hq, untaken_of_eq hacked hreq (by cases n; exacts [h0, h2])⟩

end Untaken

/-- Settles O60: a SETUP withdraws the reply; BUS takes neither a withdrawn packet nor one of a
disabled endpoint, and nobody else lifts the hold. -/
theorem stallsLastUntilRestart : Obligations.StallsLastUntilRestart := by
  refine ⟨fun s t a p hq h => ?_, fun s t a hcap hr hstep ⟨hq, htrigger, hacked, hreq⟩ => ?_,
    fun s t x c hcap hr hstep ⟨hq, hen, hacked, hreq⟩ => ?_⟩
  · obtain ⟨-, rfl⟩ := busSetup_next h
    exact ⟨hq, rfl, rfl, rfl⟩
  · obtain ⟨ht, hu⟩ := step_untaken (n := .ep0) hacked hreq hq hacked nofun (.inr htrigger) hcap hr
      hstep
    exact ⟨ht, hu.trigger htrigger, hu.acked, hu.req⟩
  · obtain ⟨ht, hu⟩ := step_untaken (n := .ep2) hacked hreq hq hacked nofun (.inl hen) hcap hr hstep
    exact ⟨ht, hu.enabled.trans hen, hu.acked, hu.req⟩

end Sys2Proof.Machine
end
